-- ==== Sys2Proof/Word.lean ====
section
/-! DEFINITION. The byte of telegrams, records and images (spec chapter 11). Every other quantity of the
part is an exact integer (section 4.2 of the introduction) and is held as a `Nat` or an `Int`. -/

namespace Sys2Proof

/-- One byte of a telegram, of a retained slot or of the configuration image. -/
abbrev Byte := BitVec 8

end Sys2Proof
end

