-- ==== Sys2Proof/Syntax.lean ====
section
/-! DEFINITION. The commands of the block: one constructor per row of spec/opcode_table.json, with the
data the spec's event carries. A telegram is given as its bytes from the delimiter to the second check
byte (R177). A `Bool` named for an order settles one of the two orders that the rules allow inside one
step (log 4). -/

namespace Sys2Proof

/-- The commands, in the order of the table. -/
inductive Instr where
  /-- POWER_ON_RESET (R176), with the strap pins as START reads them (R166). -/
  | powerOnReset (idStrap : BitVec 4) (phaseStrap : BitVec 2)
  /-- RSTN (R176), with the strap pins as START reads them (R166). -/
  | rstn (idStrap : BitVec 4) (phaseStrap : BitVec 2)
  /-- IMAGE_READ_COMPLETE (R166), with the bytes of the configuration image. -/
  | imageReadComplete (image : List Byte)
  /-- IMAGE_READ_TIMEOUT (R166). -/
  | imageReadTimeout
  /-- MARKER_READ_COMPLETE (R148): the slot read is the one the start scan stands at. -/
  | markerReadComplete
  /-- MARKER_READ_TIMEOUT (R148). -/
  | markerReadTimeout
  /-- METERING_SAMPLE (R2): the inputs in steps of the converter (16 mV and 1 mA), before R2's limiting to
  16 bits; `meterFirst`: the energy meter takes the sample before line timing does. -/
  | meteringSample (v i : Int) (meterFirst : Bool)
  /-- LOSS_COUNT_REACHED (R9). -/
  | lossCountReached
  /-- RMS_WINDOW_COMPLETE (R11). -/
  | rmsWindowComplete
  /-- SCAN_START (R12). -/
  | scanStart
  /-- SCAN_COMPLETE (R12): the seven codes in scan order; `meterFirst`: the energy meter reads Ph_applied
  before the conversion of this scan (R131). -/
  | scanComplete (ustr t1 t2 t3 t4 th ref : BitVec 12) (meterFirst : Bool)
  /-- INSULATION_SAMPLE (R105, R18): the input in mV, before R18's limiting. -/
  | insulationSample (code : Int)
  /-- BUS_IDLE (R20). -/
  | busIdle
  /-- ATTEMPT_START (R26). -/
  | attemptStart
  /-- COLLISION (R27). -/
  | collision
  /-- ATTEMPT_SUCCESS (R28). -/
  | attemptSuccess
  /-- HOLDOFF_RUNS_OUT (R30). -/
  | holdoffRunsOut
  /-- TELEGRAM_DISCARDED (R33). -/
  | telegramDiscarded
  /-- BEACON_ARRIVAL (R37). -/
  | beaconArrival (telegram : List Byte)
  /-- CONTRACT_ARRIVAL (R43). -/
  | contractArrival (telegram : List Byte)
  /-- HALT_ARRIVAL (R51). -/
  | haltArrival (telegram : List Byte)
  /-- INJECT_INTENT_ARRIVAL (R97). -/
  | injectIntentArrival (telegram : List Byte)
  /-- ISO_RESULT_ARRIVAL (R112). -/
  | isoResultArrival (telegram : List Byte)
  /-- LOG_READ_ARRIVAL (R153). -/
  | logReadArrival (telegram : List Byte)
  /-- LOG_RECORD_ARRIVAL (R40). -/
  | logRecordArrival (telegram : List Byte)
  /-- FLAG_CLEAR_ARRIVAL (R160). -/
  | flagClearArrival (telegram : List Byte)
  /-- OWN_BEACON_PERIOD (R169); `ageFirst`: the view is aged before the claim is computed (R38, R80). -/
  | ownBeaconPeriod (ageFirst : Bool)
  /-- CONTRACT_LOSS (R49). -/
  | contractLoss
  /-- ONE_SECOND_ADVANCE (R52). -/
  | oneSecondAdvance
  /-- STEP_BOUNDARY (R69). -/
  | stepBoundary
  /-- OVERDRAW_TIMER_EXPIRY (R90). -/
  | overdrawTimerExpiry
  /-- INTERVAL_TIMER_EXPIRY (R98). -/
  | intervalTimerExpiry
  /-- WINDOW_TIMER_EXPIRY (R103). -/
  | windowTimerExpiry
  /-- HOLDOFF_TIMER_EXPIRY (R101). -/
  | holdoffTimerExpiry
  /-- PEER_INTENT_TIMER_EXPIRY (R97). -/
  | peerIntentTimerExpiry
  /-- PENDING_TIMER_EXPIRY (R139). -/
  | pendingTimerExpiry
  /-- LINE_LOSS_TIMER_EXPIRY (R142). -/
  | lineLossTimerExpiry
  /-- STORE_WRITE_COMPLETION (R149): the store reports success or failure. -/
  | storeWriteCompletion (success : Bool)
  /-- DORMANT_TIMER_EXPIRY (R172). -/
  | dormantTimerExpiry
  /-- TELEGRAM_START_EVENT (R174). -/
  | telegramStartEvent
  /-- PLUG_ASSERTION (R174). -/
  | plugAssertion
  /-- PLUG_RELEASE (R173). -/
  | plugRelease
  /-- WAKE_SETTLING_END (R174). -/
  | wakeSettlingEnd
  /-- PWR_FAIL_ASSERTION (R171). -/
  | pwrFailAssertion
  /-- PWR_FAIL_RELEASE (R171). -/
  | pwrFailRelease
  /-- BUS_ACTIVITY (R30, R20, R32). -/
  | busActivity
  deriving DecidableEq, Repr

end Sys2Proof
end

