-- ==== Sys2Proof/Decode.lean ====
section
/-! DEFINITION. The command that a word spells by the bits of spec/opcode_table.json. The table gives no row
any bits, so no word spells a command (log 36). -/

namespace Sys2Proof

/-- The command an `nbits`-bit word spells: none, for no row of the table has bits (log 36). -/
def decodeTableWord (_nbits _w : Nat) : Option Instr := none

end Sys2Proof
end

