-- ==== Sys2Proof/Config.lean ====
section
/-! DEFINITION. The values the spec leaves free. None of them has a body, so nothing can be proved of
them and every claim holds whatever they are. The image's configuration is state (`ImageConfig`), and the
part's fixed numbers stand in Machine/Constants.lean. -/

namespace Sys2Proof.Config

/-- Where the `n`-th event of a microsecond is put among the events of the same microsecond. The spec lets
events of one instant be taken in either order (log 3). -/
opaque tieOrder : Nat → Nat

/-- Which of the two orders R38 and R80 allow is taken at an own beacon period that the passing of time
brings about (log 4). -/
opaque tieChoice : Nat → Bool

/-- The bus voltage (dV) of a result made before any scan record has been published, for the measurement sequence
of the result: R108 names the latest
published record and the spec gives no value for an empty one (log 18). -/
opaque emptyRecordUstr : Nat → Nat

end Sys2Proof.Config
end

