-- ==== Sys2Proof/Machine/Bytes.lean ====
section
/-! DEFINITION. Byte order and the arithmetic of section 4.2: fields of two or more bytes most significant
byte first (chapter 11, opening), two's complement, ceiling division and isqrt. -/

namespace Sys2Proof.Machine

/-- The ceiling of `a / b`. -/
def ceilDiv (a b : Nat) : Nat := (a + b - 1) / b

/-- `isqrt` by bits: the greatest extension of the partial root `r` by `b` more bits whose square does not
exceed `x`. -/
def isqrtBits (x : Nat) : Nat → Nat → Nat
  | 0, r => r
  | b + 1, r => isqrtBits x b (if (r + 2 ^ b) * (r + 2 ^ b) ≤ x then r + 2 ^ b else r)

/-- isqrt (section 4.2): the greatest integer whose square does not exceed `x`. -/
def isqrt (x : Nat) : Nat := isqrtBits x (Nat.log2 x / 2 + 1) 0

/-- The byte holding the low eight bits of `n`. -/
def lowByte (n : Nat) : Byte := BitVec.ofNat 8 n

/-- A 16-bit field, high byte first. -/
def be16 (n : Nat) : List Byte := [lowByte (n / 256), lowByte n]

/-- A 24-bit field, high byte first. -/
def be24 (n : Nat) : List Byte := [lowByte (n / 65536), lowByte (n / 256), lowByte n]

/-- A 32-bit field, high byte first. -/
def be32 (n : Nat) : List Byte :=
  [lowByte (n / 16777216), lowByte (n / 65536), lowByte (n / 256), lowByte n]

/-- A signed 16-bit field in two's complement. -/
def beS16 (n : Int) : List Byte := be16 (BitVec.ofInt 16 n).toNat

/-- The byte at an offset (0 beyond the end). -/
def rd8 (l : List Byte) (o : Nat) : Nat := (l.getD o 0).toNat

/-- The 16-bit field at an offset. -/
def rd16 (l : List Byte) (o : Nat) : Nat := rd8 l o * 256 + rd8 l (o + 1)

/-- The 24-bit field at an offset. -/
def rd24 (l : List Byte) (o : Nat) : Nat := rd16 l o * 256 + rd8 l (o + 2)

/-- The 32-bit field at an offset. -/
def rd32 (l : List Byte) (o : Nat) : Nat := rd16 l o * 65536 + rd16 l (o + 2)

/-- The signed 16-bit field at an offset. -/
def rdS16 (l : List Byte) (o : Nat) : Int :=
  if rd16 l o < 32768 then (rd16 l o : Int) else (rd16 l o : Int) - 65536

end Sys2Proof.Machine
end

