-- ==== Sys2Proof/Machine/Constants.lean ====
section
/-! DEFINITION. The part's fixed times, in microseconds, each with the rule that gives it. -/

namespace Sys2Proof.Machine

/-- Time between metering samples (R2). -/
def samplePeriod : Nat := 250
/-- Samples without an accepted crossing that make the line ABSENT (R9), and samples of a window (R11). -/
def lossLimit : Nat := 400
/-- Least time between accepted crossings (R3). -/
def crossingGuard : Nat := 5000
/-- Time between scan starts (R12). -/
def scanPeriod : Nat := 10000
/-- Time between insulation samples (R17). -/
def insulationPeriod : Nat := 4000
/-- Quiet time at which the bus is idle (R20). -/
def idleTime : Nat := 80
/-- Time of one bit on the bus (R19). -/
def bitTime : Nat := 2
/-- Unit of the collision holdoff (R30). -/
def holdoffUnit : Nat := 64
/-- Failed attempts at which a telegram is dropped (R31). -/
def retryLimit : Nat := 8
/-- The contract loss timer (R49). -/
def lossTime : Nat := 1000000
/-- One second of the low-power clock (R52). -/
def secondTime : Nat := 1000000
/-- One HTR step (R69). -/
def stepTime : Nat := 62500
/-- The overdraw timer (R90). -/
def overdrawTime : Nat := 1000000
/-- The listen window (R103) and the peer intent timer (R97). -/
def windowTime : Nat := 300000
/-- The pending timer (R137). -/
def pendingTime : Nat := 60000000
/-- The line-loss timer (R142). -/
def lineLossTime : Nat := 30000000
/-- One write of the retained store (R149). -/
def writeTime : Nat := 8000
/-- The image read before it is taken as failed (R166). -/
def imageTime : Nat := 50000
/-- One marker read before it is taken as failed (R148). -/
def markerTime : Nat := 1000
/-- The oscillator's settling time (R174). -/
def settleTime : Nat := 2000
/-- The greatest sequence number (R146). -/
def lastSequence : Nat := 4294967295

end Sys2Proof.Machine
end

