-- ==== Sys2Proof/Machine/State.lean ====
section
/-! DEFINITION. The state of the VU2740: one record per block of section 2 of the introduction, plain
data throughout. Timers are held as the time left in microseconds, which is how the spec's state tables
give them; `none` is a stopped timer. -/

namespace Sys2Proof.Machine

/-! ## Flags, modes and the mode unit -/

/-- The twelve fault flags (chapter 9), in the order of their coding (R177). -/
inductive Flag where
  | isoWarn | isoFault | injector | thermSensor | heaterHot | line | overdraw | dupId | config | frontEnd
  | log | contractConflict
  deriving DecidableEq, Repr

/-- A set of the twelve flags in the coding of R177: bit 0 is ISO_WARN, bit 11 is CONTRACT_CONFLICT. -/
abbrev FlagSet := BitVec 12

/-- The station modes (R165). -/
inductive Mode where
  | start | configHold | listening | run | dormant | powerHold
  deriving DecidableEq, Repr

/-- The configuration of section 10.3, as the image gives it. -/
structure ImageConfig where
  beaconCode : Nat
  dormantTimeout : Nat
  wakeBus : Bool
  wakePlug : Bool
  cmax : Nat
  imaxDc : Nat
  margin : Nat
  ramp : Nat
  yield : Nat
  umax : Nat
  band : Nat
  rh : Nat
  tOn : Int
  tOff : Int
  thMax : Int
  uinj : Nat
  rc : Nat
  rm : Nat
  phaseCode : Nat
  crop : Nat
  warnK : Nat
  faultK : Nat
  confirmCode : Nat
  interval : Nat
  gain : Nat
  demandCode : Nat
  alertMask : FlagSet
  /-- Points of the derating curve, temperature and cap (R57). -/
  curve : List (Int × Nat)
  deriving DecidableEq, Repr

/-- What the mode unit holds before START ends: no configuration is in force (log 8). -/
def ImageConfig.none : ImageConfig :=
  { beaconCode := 0, dormantTimeout := 0, wakeBus := false, wakePlug := false, cmax := 0, imaxDc := 0,
    margin := 0, ramp := 0, yield := 0, umax := 0, band := 0, rh := 0, tOn := 0, tOff := 0, thMax := 0,
    uinj := 0, rc := 0, rm := 0, phaseCode := 0, crop := 0, warnK := 0, faultK := 0, confirmCode := 0,
    interval := 0, gain := 0, demandCode := 0, alertMask := 0, curve := [] }

/-- The image read of START (R166). -/
inductive ImageRead where
  | reading (left : Nat)
  | failed
  | passed (cfg : ImageConfig)
  deriving DecidableEq, Repr

/-- The start scan of the retained store (R148). -/
inductive StartScan where
  | reading (slot : Fin 16) (left : Nat)
  | done
  deriving DecidableEq, Repr

/-- The dormant timer (R172). -/
inductive DormantTimer where
  | stopped
  | running (left : Nat)
  | expired
  deriving DecidableEq, Repr

/-- The mode unit (section 10.1). -/
structure ModeUnit where
  mode : Mode
  /-- The dormant sub-state: `some` is settling, with the time left; `none` is asleep. -/
  settling : Option Nat
  station : Nat
  phase : Nat
  cfg : ImageConfig
  image : ImageRead
  scan : StartScan
  beaconTimer : Option Nat
  listening : Nat
  dormantTimer : DormantTimer
  heldPwrFail : Bool
  deriving DecidableEq, Repr

/-- The input pins whose level the block reads. -/
structure Pins where
  plug : Bool
  pwrFail : Bool
  deriving DecidableEq, Repr

/-! ## Measurement front end -/

/-- The line states (section 1.3.2). -/
inductive LineState where
  | absent | settling | good | fault
  deriving DecidableEq, Repr

/-- One value per temperature channel. -/
structure Sensors (α : Type) where
  t1 : α
  t2 : α
  t3 : α
  t4 : α
  th : α
  deriving DecidableEq, Repr

/-- The published scan record (R12); an invalid sensor has no filtered value. -/
structure ScanRecord where
  ustr : Option Nat
  temps : Sensors (Option Int)
  deriving DecidableEq, Repr

/-- The measurement front end (chapter 1). -/
structure FrontEnd where
  count : Nat
  vPrev : Option Int
  tAcc : Option Nat
  line : LineState
  settle : Nat
  badPeriod : Nat
  badUrms : Nat
  loss : Nat
  sumV2 : Nat
  sumI2 : Nat
  n : Nat
  urms : Nat
  irms : Nat
  scanning : Bool
  scanTimer : Option Nat
  record : ScanRecord
  /-- The two previous valid values of each channel, x₁ and x₂ (R15). -/
  history : Sensors (Option (Int × Int))
  refCount : Nat
  insClock : Option Nat
  deriving DecidableEq, Repr

/-! ## Peer bus interface -/

/-- The telegram kinds (R33, R177). -/
inductive Kind where
  | beacon | contract | halt | injectIntent | isoResult | logRead | logRecord | flagClear
  deriving DecidableEq, Repr

/-- The four transmit slots (section 2.3). -/
inductive SlotKind where
  | intent | result | beacon | logReply
  deriving DecidableEq, Repr

/-- An occupied slot whose contents are fixed when loaded. -/
structure TxSlot where
  payload : List Byte
  failed : Nat
  deriving DecidableEq, Repr

/-- An attempt in progress (R26): the claim is the one a beacon of this attempt carries (R28). -/
structure Attempt where
  slot : SlotKind
  telegram : List Byte
  claim : Nat
  left : Nat
  deriving DecidableEq, Repr

/-- The peer bus interface (chapter 2). -/
structure PeerBus where
  quiet : Nat
  /-- What is on the bus since the receiver took it up is another station's, so that its end is an arrival and not
  the readback of an own attempt (R32, R34). -/
  foreign : Bool
  /-- The receiver has taken up a telegram and collects it (R32). -/
  receiving : Bool
  intent : Option TxSlot
  result : Option TxSlot
  /-- A beacon request with its failed-attempt count. -/
  beacon : Option Nat
  logReply : Option TxSlot
  heldIntent : Option (List Byte)
  heldResult : Option (List Byte)
  heldBeacon : Bool
  withdrawn : Bool
  attempt : Option Attempt
  holdoff : Option Nat
  random : Nat
  deriving DecidableEq, Repr

/-! ## Peer view, contract record, local clock -/

/-- The roles of stations (section 4.5). -/
inductive Role where
  | module | inlet | reader
  deriving DecidableEq, Repr

/-- The module part of an entry (R37). -/
structure ModulePart where
  phase : Option Nat
  claim : Nat
  wanting : Bool
  injecting : Bool
  deriving DecidableEq, Repr

/-- An entry of the peer view (section 3.1). -/
structure Entry where
  id : Nat
  role : Role
  age : Nat
  part : Option ModulePart
  deriving DecidableEq, Repr

/-- A tariff window (section 3.4). -/
structure Window where
  start : Nat
  cls : Nat
  deriving DecidableEq, Repr

/-- The states of a contract record that is not NONE (section 3.4). -/
inductive RecordStatus where
  | held
  | conflicted (contender : Nat)
  | resolving
  deriving DecidableEq, Repr

/-- The contract record in HELD, CONFLICTED or RESOLVING. -/
structure Contract where
  status : RecordStatus
  source : Nat
  seq : Nat
  plugged : Bool
  session : Nat
  lim1 : Nat
  lim2 : Nat
  lim3 : Nat
  windows : List Window
  deriving DecidableEq, Repr

/-- The peer view and contract record (chapter 3); `record = none` is NONE. -/
structure PeerView where
  view : List Entry
  record : Option Contract
  lossTimer : Option Nat
  halted : Nat
  deriving DecidableEq, Repr

/-- The local clock (section 3.7). -/
structure Clock where
  day : Nat
  second : Nat
  valid : Bool
  toAdvance : Nat
  deriving DecidableEq, Repr

/-! ## Thermal unit and share engine -/

/-- The heater states (section 4.6). -/
inductive Heater where
  | off | on | lockout
  deriving DecidableEq, Repr

/-- The thermal unit (section 4.1); `htr` is true when HTR is closed. -/
structure Thermal where
  validCount : Nat
  tmin : Option Int
  tmax : Option Int
  sensorFault : Bool
  heater : Heater
  capT : Nat
  taper : Nat
  idcCap : Nat
  dutyReq : Nat
  phFull : Nat
  phReq : Nat
  inForce : Nat
  step : Nat
  stepTimer : Option Nat
  htr : Bool
  deriving DecidableEq, Repr

/-- The share engine (section 5.1). -/
structure Share where
  demand : Nat
  wanting : Bool
  claim : Nat
  claimTx : Nat
  drawn : Nat
  pInAvail : Nat
  pDcAvail : Nat
  phApplied : Nat
  dutyApplied : Nat
  idcSet : Nat
  chgEn : Bool
  iRef : Nat
  overdrawTimer : Option Nat
  hold : Bool
  overdraw : Bool
  deriving DecidableEq, Repr

/-! ## Insulation monitor -/

/-- The four phases of a measurement (R94). -/
inductive Phase where
  | p1 | p2 | p3 | p4
  deriving DecidableEq, Repr

/-- The sequencer, each state with the timer or index that runs in it (section 6.2). -/
inductive Seq where
  | off
  | waiting (left : Nat)
  | pending
  | window (left : Nat)
  | injecting (phase : Phase) (index : Nat)
  | holdoff (left : Nat)
  deriving DecidableEq, Repr

/-- The four phase sums (R105), mV. -/
structure PhaseSums where
  s1 : Int
  s2 : Int
  s3 : Int
  s4 : Int
  deriving DecidableEq, Repr

/-- The insulation states (section 6.5). -/
inductive Insulation where
  | unknown | good | warning | fault
  deriving DecidableEq, Repr

/-- The settings of ISO_SW (R94). -/
inductive IsoSw where
  | opened | plus | minus
  deriving DecidableEq, Repr

/-- The insulation monitor (section 6.2). -/
structure Monitor where
  seq : Seq
  /-- The model's own: the sequencer's timer has been set with time left and no time has passed since (log 2). -/
  timerFresh : Bool
  peerIntent : Option Nat
  intentSeq : Nat
  sums : PhaseSums
  noResponse : Nat
  belowFault : Nat
  belowWarn : Nat
  aboveWarn : Nat
  insulation : Insulation
  clearance : Bool
  injecting : Bool
  isoSw : IsoSw
  deriving DecidableEq, Repr

/-! ## Energy meter -/

/-- The basis of an interval's start minute (R125). -/
inductive Basis where
  | day | opening
  deriving DecidableEq, Repr

/-- The running demand interval (R125). -/
structure Interval where
  finish : Nat
  start : Nat
  basis : Basis
  deriving DecidableEq, Repr

/-- The peak demand (R130). -/
structure Peak where
  watts : Nat
  start : Nat
  basis : Basis
  deriving DecidableEq, Repr

/-- The energy meter (section 7.2). -/
structure Meter where
  qraw : Nat
  active : Bool
  acc : Int
  imp0 : Nat
  imp1 : Nat
  imp2 : Nat
  imp3 : Nat
  exp : Nat
  heatAcc : Nat
  heatCount : Nat
  count : Nat
  index : Nat
  interval : Option Interval
  peak : Option Peak
  held : Bool
  heatTotal : Nat
  deriving DecidableEq, Repr

/-! ## Session unit and log -/

/-- A stamp of the local clock (R144). -/
structure Stamp where
  day : Nat
  second : Nat
  valid : Bool
  deriving DecidableEq, Repr

/-- The end reasons (R141), in the order of their codes. -/
inductive EndReason where
  | unplugged | sessionChanged | contractLost | halted | isoFault | thermalFault | frontEndFault | lineLost
  | overdraw | powerFail | duplicateId
  deriving DecidableEq, Repr

/-- The open-session record while OPEN (R144, R145). -/
structure OpenRecord where
  id : Nat
  station : Nat
  phase : Nat
  opened : Stamp
  minIns : Option Nat
  flags : FlagSet
  deriving DecidableEq, Repr

/-- The session state with what each state holds (section 8.1). -/
inductive Session where
  | idle
  | pending (id : Nat) (left : Nat)
  | opened (record : OpenRecord) (lineLoss : Option Nat)
  | ended (record : OpenRecord) (reason : EndReason) (closed : Stamp)
  deriving DecidableEq, Repr

/-- A completed session record (R144). -/
structure SessionRecord where
  seq : Nat
  id : Nat
  station : Nat
  phase : Nat
  opened : Stamp
  closed : Stamp
  reason : EndReason
  imp0 : Nat
  imp1 : Nat
  imp2 : Nat
  imp3 : Nat
  exp : Nat
  heat : Nat
  peak : Option Peak
  minIns : Option Nat
  flags : FlagSet
  deriving DecidableEq, Repr

/-- The closing buffer while occupied (section 8.5); `failedSlot` is the slot of a failed first write, so
the attempt is 1 when it is `none` and 2 otherwise. -/
structure Buffer where
  record : SessionRecord
  target : Fin 16
  failedSlot : Option (Fin 16)
  left : Nat
  deriving DecidableEq, Repr

/-- The session unit and log (section 8.1). -/
structure SessionUnit where
  session : Session
  buffer : Option Buffer
  /-- The slot table: the committed sequence of each of the 16 slots (section 8.5). -/
  table : List (Option Nat)
  deriving DecidableEq, Repr

/-- The fault unit (R155); `alert` is true when ALERT is asserted. -/
structure FaultUnit where
  flags : FlagSet
  alert : Bool
  deriving DecidableEq, Repr

/-- The retained store's bytes: address 48 times slot plus offset (R178). -/
abbrev Memory := List Host.Cell

/-- The whole machine. `freeIndex` and `pending` are the model's own, and so is `imon.timerFresh`. -/
structure State where
  pins : Pins
  mdu : ModeUnit
  mfe : FrontEnd
  pbi : PeerBus
  pvt : PeerView
  clock : Clock
  thu : Thermal
  she : Share
  imon : Monitor
  emt : Meter
  slu : SessionUnit
  flu : FaultUnit
  store : Memory
  freeIndex : Nat
  pending : List Instr
  deriving DecidableEq, Repr

/-- The reasons a command stops the block with a fault: none. Every command of the table has an effect by
the spec's rules, or changes nothing. No one raises a fault, so this is safe. -/
inductive Fault where
  deriving DecidableEq, Repr

/-- The reasons a command is refused. -/
inductive Refusal where
  /-- Raised by `exec` for a command that has no meaning yet, by its row's mnemonic; safe. No arm of this
  model raises it. -/
  | notModelled (mnemonic : String)
  deriving DecidableEq, Repr

/-! ## Start values -/

/-- The front end while its converters are stopped (R1): each rule's "converter start" value. -/
def FrontEnd.start : FrontEnd :=
  { count := 0, vPrev := none, tAcc := none, line := .absent, settle := 0, badPeriod := 0, badUrms := 0,
    loss := 0, sumV2 := 0, sumI2 := 0, n := 0, urms := 0, irms := 0, scanning := false, scanTimer := none,
    record := { ustr := none, temps := ⟨none, none, none, none, none⟩ },
    history := ⟨none, none, none, none, none⟩, refCount := 0, insClock := none }

/-- The interface at a start (R21), with the random value `x` it keeps. -/
def PeerBus.start (x : Nat) : PeerBus :=
  { quiet := 0, foreign := false, receiving := false, intent := none, result := none, beacon := none,
    logReply := none, heldIntent := none, heldResult := none, heldBeacon := false, withdrawn := false,
    attempt := none, holdoff := none, random := x }

/-- The peer view and record after a reset (R39, R49, R50). -/
def PeerView.start : PeerView := { view := [], record := none, lossTimer := none, halted := 0 }

/-- The local clock after a power-on reset (R52). -/
def Clock.start : Clock := { day := 0, second := 0, valid := false, toAdvance := 1000000 }

/-- The thermal unit's start values (R54). -/
def Thermal.start : Thermal :=
  { validCount := 0, tmin := none, tmax := none, sensorFault := false, heater := .off, capT := 0, taper := 0,
    idcCap := 0, dutyReq := 0, phFull := 0, phReq := 0, inForce := 0, step := 0, stepTimer := none,
    htr := false }

/-- The share engine's start values (R72). -/
def Share.start : Share :=
  { demand := 0, wanting := false, claim := 0, claimTx := 0, drawn := 0, pInAvail := 0, pDcAvail := 0,
    phApplied := 0, dutyApplied := 0, idcSet := 0, chgEn := false, iRef := 0, overdrawTimer := none,
    hold := false, overdraw := false }

/-- The insulation monitor after a reset (R95). -/
def Monitor.start : Monitor :=
  { seq := .off, timerFresh := false, peerIntent := none, intentSeq := 0, sums := ⟨0, 0, 0, 0⟩, noResponse := 0, belowFault := 0,
    belowWarn := 0, aboveWarn := 0, insulation := .unknown, clearance := false, injecting := false,
    isoSw := .opened }

/-- The energy meter's start values (R119), with the quantum it keeps. -/
def Meter.start (qraw : Nat) : Meter :=
  { qraw := qraw, active := false, acc := 0, imp0 := 0, imp1 := 0, imp2 := 0, imp3 := 0, exp := 0,
    heatAcc := 0, heatCount := 0, count := 0, index := 0, interval := none, peak := none, held := false,
    heatTotal := 0 }

/-- The session unit after a reset (R136). Until the start scan rebuilds the slot table the spec gives its slots no
value: that all 16 are empty at a reset is a DESIGN CHOICE (log 38). -/
def SessionUnit.start : SessionUnit := { session := .idle, buffer := none, table := List.replicate 16 none }

/-- The mode unit at the beginning of START (R165, R166), with the straps as read. R166 leaves open whether the image
read and the start scan run in either order or together: that both begin at the reset is a DESIGN CHOICE (log 39). -/
def ModeUnit.start (station phase : Nat) : ModeUnit :=
  { mode := .start, settling := none, station := station, phase := phase, cfg := ImageConfig.none,
    image := .reading 50000, scan := .reading 0 1000, beaconTimer := none, listening := 0,
    dormantTimer := .stopped, heldPwrFail := false }

/-- The machine at the beginning of START after a power-on reset (R176), with the straps as read, the
random sequence seeded from the station id (R29), and the given pins, store, free index and queue. -/
def State.atStart (station phase : Nat) (pins : Pins) (store : Memory) (freeIndex : Nat)
    (pending : List Instr) : State :=
  { pins := pins, mdu := ModeUnit.start station phase, mfe := FrontEnd.start,
    pbi := PeerBus.start (station * 4099 + 1), pvt := PeerView.start, clock := Clock.start,
    thu := Thermal.start, she := Share.start, imon := Monitor.start, emt := Meter.start 0,
    slu := SessionUnit.start, flu := { flags := 0, alert := false }, store := store,
    freeIndex := freeIndex, pending := pending }

/-- Right after a power-on reset: id strap 0 and phase strap 1 (log 5), both input pins inactive (log 6),
a retained store of zero bytes (log 7), an empty queue. -/
def State.reset : State := State.atStart 0 1 { plug := false, pwrFail := false } [] 0 []

end Sys2Proof.Machine
end

