-- ==== Sys2Proof/Machine/Flags.lean ====
section
/-! DEFINITION. Chapter 9: the set of twelve flags in the coding of R177, the mask in force (R157) and the
level of ALERT (R158). -/

namespace Sys2Proof.Machine

/-- The bit of a flag in the coding of R177. -/
def Flag.index : Flag → Nat
  | .isoWarn => 0
  | .isoFault => 1
  | .injector => 2
  | .thermSensor => 3
  | .heaterHot => 4
  | .line => 5
  | .overdraw => 6
  | .dupId => 7
  | .config => 8
  | .frontEnd => 9
  | .log => 10
  | .contractConflict => 11

/-- The twelve flags in the order of R177. -/
def allFlags : List Flag :=
  [.isoWarn, .isoFault, .injector, .thermSensor, .heaterHot, .line, .overdraw, .dupId, .config, .frontEnd,
   .log, .contractConflict]

/-- Whether a set holds a flag. -/
def FlagSet.has (fs : FlagSet) (f : Flag) : Bool := fs.getLsbD f.index

/-- The set holding one flag. -/
def FlagSet.only (f : Flag) : FlagSet := 1#12 <<< f.index

/-- A set with a flag added. -/
def FlagSet.insert (fs : FlagSet) (f : Flag) : FlagSet := fs ||| FlagSet.only f

/-- A set with a flag taken out. -/
def FlagSet.remove (fs : FlagSet) (f : Flag) : FlagSet := fs &&& ~~~ FlagSet.only f

/-- The 16-bit coding of a set: bits 12 to 15 are sent as 0 (R177). -/
def FlagSet.code (fs : FlagSet) : Nat := fs.toNat

/-- The set a 16-bit coding names: bits 12 to 15 are ignored (R177). -/
def FlagSet.ofCode (n : Nat) : FlagSet := BitVec.ofNat 12 n

/-- Whether a flag is latched. -/
def State.latched (s : State) (f : Flag) : Bool := FlagSet.has s.flu.flags f

/-- The mask in force outside START (R157): empty in CONFIG_HOLD, the image's in every other mode. -/
def State.maskInForce (s : State) : FlagSet :=
  match s.mdu.mode with
  | .configHold => 0
  | _ => s.mdu.cfg.alertMask

/-- Whether ALERT is asserted (R158): released in START, otherwise asserted while a latched flag is outside
the mask in force. -/
def State.alertLevel (s : State) : Bool :=
  match s.mdu.mode with
  | .start => false
  | _ => s.flu.flags &&& ~~~ s.maskInForce != 0

/-- ALERT driven by the flags and the mask as they stand (R158). -/
def State.updateAlert (s : State) : State := { s with flu.alert := s.alertLevel }

end Sys2Proof.Machine
end

