-- ==== Sys2Proof/Machine/Operands.lean ====
section
/-! DEFINITION. How the operands of the commands are read: converter codes (R2, R13, R14, R16, R18), the
framing of a telegram (R19, R177) with the checks of R32 and R33, the fields of each telegram kind (section
11.2, R179), and the configuration image with its check (R167, R180). -/

namespace Sys2Proof.Machine

/-! ## Converter codes -/

/-- A value limited to `lo` to `hi`. -/
def limit (lo hi x : Int) : Int := max lo (min hi x)

/-- A code of the metering pair: beyond the range the nearest end code (R2). -/
def meteringCode (x : Int) : Int := limit (-32768) 32767 x

/-- A code of the insulation converter: beyond the range the nearest end code (R18). -/
def insulationCode (x : Int) : Int := limit (-2047) 2047 x

/-- A saturated sample (R18). -/
def saturated (code : Int) : Bool := code == -2047 || code == 2047

/-- The string voltage of a code, dV (R13). -/
def ustrOf (code : BitVec 12) : Nat := code.toNat * 5 / 4

/-- The temperature of a code, dC; `none` for an invalid sensor (R14). -/
def tempOf (code : BitVec 12) : Option Int :=
  if code.toNat < 16 ∨ 4079 < code.toNat then none else some (((code.toNat * 125 / 256 : Nat) : Int) - 500)

/-- Whether a REF code is in tolerance (R16). -/
def refInTolerance (code : BitVec 12) : Bool := 2007 ≤ code.toNat && code.toNat ≤ 2089

/-! ## Framing -/

/-- The kind codes (R177). -/
def Kind.code : Kind → Nat
  | .beacon => 1
  | .contract => 2
  | .halt => 3
  | .injectIntent => 4
  | .isoResult => 5
  | .logRead => 6
  | .logRecord => 7
  | .flagClear => 8

/-- The kind of a code; codes 0 and 9 to 15 are unknown (R177). -/
def Kind.ofCode : Nat → Option Kind
  | 1 => some .beacon
  | 2 => some .contract
  | 3 => some .halt
  | 4 => some .injectIntent
  | 5 => some .isoResult
  | 6 => some .logRead
  | 7 => some .logRecord
  | 8 => some .flagClear
  | _ => none

/-- Whether a payload length is permitted for a kind (R177). -/
def Kind.permits (k : Kind) (l : Nat) : Bool :=
  match k with
  | .beacon => l == 20
  | .contract => 19 ≤ l && l ≤ 55 && (l - 19) % 3 == 0
  | .halt => l == 1
  | .injectIntent => l == 1
  | .isoResult => l == 6
  | .logRead => l == 6
  | .logRecord => l == 9 || l == 56
  | .flagClear => l == 3

/-- The start delimiter (R177). -/
def delimiter : Byte := 0x7E

/-- One bit of the CRC: polynomial x¹⁶ + x¹² + x⁵ + 1, most significant bit first (R177). -/
def crcShift (c : BitVec 16) : BitVec 16 := if c.msb then (c <<< 1) ^^^ 0x1021#16 else c <<< 1

/-- One byte of the CRC (R177). -/
def crcByte (c : BitVec 16) (b : Byte) : BitVec 16 :=
  crcShift (crcShift (crcShift (crcShift (crcShift (crcShift (crcShift (crcShift
    (c ^^^ (b.setWidth 16 <<< 8)))))))))

/-- The CRC of some bytes: it starts from 0xFFFF and has no final inversion (R177). -/
def crc16 (l : List Byte) : BitVec 16 := l.foldl crcByte 0xFFFF#16

/-- Header and payload: the bytes the CRC is computed over (R177). -/
def telegramBody (source : Nat) (k : Kind) (payload : List Byte) : List Byte :=
  lowByte (source * 16 + k.code) :: lowByte payload.length :: payload

/-- The bytes of a telegram (R177). -/
def frame (source : Nat) (k : Kind) (payload : List Byte) : List Byte :=
  delimiter :: (telegramBody source k payload ++ be16 (crc16 (telegramBody source k payload)).toNat)

/-- The ten bits of a byte on the wire, true for dominant: a dominant start bit, the data bits least
significant first with 0 dominant, a recessive stop bit (R19, R177). -/
def byteLevels (b : Byte) : List Bool :=
  true :: ([0, 1, 2, 3, 4, 5, 6, 7].map fun i => !b.getLsbD i) ++ [false]

/-- The levels of a telegram on the wire, in order (R19). -/
def wireLevels (t : List Byte) : List Bool := t.flatMap byteLevels

/-- How long a telegram lasts, microseconds (R19). -/
def wireTime (t : List Byte) : Nat := bitTime * (wireLevels t).length

/-- A complete telegram that has passed the checks of R33. -/
structure Received where
  source : Nat
  kind : Kind
  payload : List Byte
  deriving DecidableEq, Repr

/-- The checks of R32 and R33 on the bytes of a telegram: delimiter, length byte at most 56 and equal to
the payload received, CRC, known kind, length permitted for the kind. `none` is a telegram discarded
without trace. -/
def checkTelegram (t : List Byte) : Option Received :=
  match t with
  | d :: h :: l :: rest =>
    if d = delimiter ∧ l.toNat ≤ 56 ∧ rest.length = l.toNat + 2 ∧
        (crc16 (h :: l :: rest.take l.toNat)).toNat = rd16 rest l.toNat then
      match Kind.ofCode (h.toNat % 16) with
      | some k =>
        if k.permits l.toNat then some { source := h.toNat / 16, kind := k, payload := rest.take l.toNat }
        else none
      | none => none
    else none
  | _ => none

/-! ## Fields of the telegram kinds -/

/-- The module part a BEACON sets (R37): any phase but 1, 2 or 3 is none, and only bits 0 and 1 of the
indicators are read (R179). -/
def beaconPart (p : List Byte) : ModulePart :=
  { phase := if 1 ≤ rd8 p 0 ∧ rd8 p 0 ≤ 3 then some (rd8 p 0) else none,
    claim := rd16 p 7,
    wanting := (p.getD 9 0).getLsbD 0,
    injecting := (p.getD 9 0).getLsbD 1 }

/-- The windows a contract carries, `n` of them from index `j` (section 11.2.2). -/
def windowsFrom (p : List Byte) : Nat → Nat → List Window
  | 0, _ => []
  | n + 1, j => { start := rd16 p (19 + 3 * j), cls := rd8 p (21 + 3 * j) } :: windowsFrom p n (j + 1)

/-- Whether the starts ascend strictly, with no start twice (R45). -/
def ascendingStarts : List Window → Bool
  | a :: b :: rest => a.start < b.start && ascendingStarts (b :: rest)
  | _ => true

/-- The window list a contract is taken to carry: empty when R45 rejects it. -/
def contractWindows (p : List Byte) : List Window :=
  let ws := windowsFrom p (rd8 p 18) 0
  if rd8 p 18 ≤ 6 ∧ p.length = 19 + 3 * rd8 p 18 ∧ (ws.all fun w => w.start ≤ 1439 && w.cls ≤ 3) ∧
      ascendingStarts ws then ws
  else []

/-- The record an accepted CONTRACT from `source` sets (R43, R44, R45): limits above 630 are taken as 630. -/
def contractOf (source : Nat) (p : List Byte) : Contract :=
  { status := .held, source := source, seq := rd8 p 0, plugged := rd8 p 1 != 0, session := rd32 p 2,
    lim1 := min (rd16 p 6) 630, lim2 := min (rd16 p 8) 630, lim3 := min (rd16 p 10) 630,
    windows := contractWindows p }

/-- Day number and second of day of a CONTRACT (section 11.2.2). -/
def contractDay (p : List Byte) : Nat := rd16 p 12
/-- Second of day of a CONTRACT (section 11.2.2). -/
def contractSecond (p : List Byte) : Nat := rd32 p 14

/-- The result kinds (section 11.2.5). -/
inductive ResultKind where
  | valid | aboveRange | interfered | noResponse
  deriving DecidableEq, Repr

/-- The code of a result kind (section 11.2.5). -/
def ResultKind.code : ResultKind → Nat
  | .valid => 0
  | .aboveRange => 1
  | .interfered => 2
  | .noResponse => 3

/-- The kind an ISO_RESULT carries: 4 to 255 is treated as INTERFERED (R179). -/
def resultKind (p : List Byte) : ResultKind :=
  match rd8 p 1 with
  | 0 => .valid
  | 1 => .aboveRange
  | 3 => .noResponse
  | _ => .interfered

/-- The value classified, for a result that is (R112): above 10000 counts as 10000, and ABOVE_RANGE is
10000 whatever it carries. -/
def classifiedValue (k : ResultKind) (value : Nat) : Option Nat :=
  match k with
  | .valid => some (min value 10000)
  | .aboveRange => some 10000
  | _ => none

/-! ## The configuration image -/

/-- The samples of one phase: n = 125, 250, 500 or 1000 (section 6.1). -/
def phaseSamples (code : Nat) : Nat := 125 * 2 ^ code

/-- The first `n` points of the curve from index `i` (section 11.5). -/
def curveFrom (im : List Byte) : Nat → Nat → List (Int × Nat)
  | 0, _ => []
  | n + 1, i => (rdS16 im (45 + 4 * i), rd16 im (47 + 4 * i)) :: curveFrom im n (i + 1)

/-- Whether the curve's temperatures ascend strictly (R167). -/
def ascendingCurve : List (Int × Nat) → Bool
  | a :: b :: rest => decide (a.1 < b.1) && ascendingCurve (b :: rest)
  | _ => true

/-- The fields of an image at their offsets (section 11.5); bits 12 to 15 of the mask are ignored (R180). -/
def imageFields (im : List Byte) : ImageConfig :=
  { beaconCode := rd8 im 1, dormantTimeout := rd16 im 2, wakeBus := (im.getD 4 0).getLsbD 0,
    wakePlug := (im.getD 4 0).getLsbD 1, cmax := rd16 im 5, imaxDc := rd16 im 7, margin := rd8 im 9,
    ramp := rd8 im 10, yield := rd16 im 11, umax := rd16 im 13, band := rd8 im 15, rh := rd16 im 16,
    tOn := rdS16 im 18, tOff := rdS16 im 20, thMax := rdS16 im 22, uinj := rd16 im 24, rc := rd16 im 26,
    rm := rd8 im 28, phaseCode := rd8 im 29, crop := rd16 im 30, warnK := rd16 im 32, faultK := rd16 im 34,
    confirmCode := rd8 im 36, interval := rd16 im 37, gain := rd16 im 39, demandCode := rd8 im 41,
    alertMask := FlagSet.ofCode (rd16 im 42), curve := curveFrom im (rd8 im 44) 0 }

/-- Whether `x` lies from `lo` to `hi` inclusive. -/
def inRange (lo hi x : Nat) : Bool := lo ≤ x && x ≤ hi

/-- Whether a temperature lies in the range of section 10.3. -/
def tempInRange (t : Int) : Bool := decide (-500 ≤ t) && decide (t ≤ 1499)

/-- The ranges and the orderings of R167 on the fields. -/
def ImageConfig.ok (c : ImageConfig) : Bool :=
  inRange 0 3 c.beaconCode && inRange 10 600 c.dormantTimeout && inRange 10 400 c.cmax &&
  inRange 10 400 c.imaxDc && inRange 0 50 c.margin && inRange 5 100 c.ramp && inRange 800 990 c.yield &&
  inRange 2000 5000 c.umax && inRange 10 200 c.band && inRange 100 2000 c.rh && tempInRange c.tOn &&
  tempInRange c.tOff && tempInRange c.thMax && inRange 5000 30000 c.uinj && inRange 100 1000 c.rc &&
  inRange 1 50 c.rm && inRange 0 3 c.phaseCode && inRange 0 500 c.crop && inRange 10 5000 c.warnK &&
  inRange 10 5000 c.faultK && inRange 0 2 c.confirmCode && inRange 10 600 c.interval &&
  inRange 29491 36044 c.gain && inRange 0 2 c.demandCode && inRange 2 16 c.curve.length &&
  (c.curve.all fun q => tempInRange q.1 && inRange 0 400 q.2) && ascendingCurve c.curve &&
  decide (c.tOn < c.tOff) && decide (c.faultK < c.warnK) && decide (2 * c.crop ≤ phaseSamples c.phaseCode)

/-- The sum of the bytes, mod 256 (R167). -/
def imageSum (im : List Byte) : Nat := (im.foldl (fun n b => n + b.toNat) 0) % 256

/-- The image check of R167 with the phase strap: `none` is a failed check. An image of other than 128
bytes fails (log 19). -/
def imageCheck (im : List Byte) (phase : Nat) : Option ImageConfig :=
  if im.length = 128 ∧ rd8 im 0 = 1 ∧ imageSum im = 0 ∧ rd8 im 4 ≤ 3 ∧ phase ≠ 0 ∧ (imageFields im).ok then
    some (imageFields im)
  else none

end Sys2Proof.Machine
end

