-- ==== Sys2Proof/Machine/Layout.lean ====
section
/-! DEFINITION. What the station writes in bytes (chapter 11): its own beacon (R42), results, log replies
(R154) and session records (R178). -/

namespace Sys2Proof.Machine

/-! ## Codes of names -/

/-- The station mode in a beacon (section 11.2.1); START and DORMANT send none. -/
def Mode.code : Mode → Nat
  | .configHold => 1
  | .listening => 2
  | .run => 3
  | .powerHold => 4
  | .start => 0
  | .dormant => 0

/-- The session state in a beacon (section 11.2.1). -/
def Session.code : Session → Nat
  | .idle => 0
  | .pending .. => 1
  | .opened .. => 2
  | .ended .. => 3

/-- The id of the session: 0 in IDLE (section 8, table of states). -/
def Session.id : Session → Nat
  | .idle => 0
  | .pending id _ => id
  | .opened r _ => r.id
  | .ended r _ _ => r.id

/-- Whether the session is IDLE. -/
def Session.isIdle : Session → Bool
  | .idle => true
  | _ => false

/-- Whether the session is PENDING. -/
def Session.isPending : Session → Bool
  | .pending .. => true
  | _ => false

/-- Whether the session is OPEN. -/
def Session.isOpen : Session → Bool
  | .opened .. => true
  | _ => false

/-- The insulation state in a beacon (section 11.2.1). -/
def Insulation.code : Insulation → Nat
  | .unknown => 0
  | .good => 1
  | .warning => 2
  | .fault => 3

/-- The code of an end reason: 1 to 11 in the order of R141 (section 11.3). -/
def EndReason.code : EndReason → Nat
  | .unplugged => 1
  | .sessionChanged => 2
  | .contractLost => 3
  | .halted => 4
  | .isoFault => 5
  | .thermalFault => 6
  | .frontEndFault => 7
  | .lineLost => 8
  | .overdraw => 9
  | .powerFail => 10
  | .duplicateId => 11

/-! ## The slot table (section 8.5) -/

/-- The sequences a slot table holds. -/
def heldSequences (table : List (Option Nat)) : List Nat := table.filterMap id

/-- The newest held sequence: the greatest, 0 when there is none. -/
def newestSeq (table : List (Option Nat)) : Nat := (heldSequences table).foldl max 0

/-- The oldest held sequence: the least, 0 when there is none. -/
def oldestSeq (table : List (Option Nat)) : Nat :=
  match heldSequences table with
  | [] => 0
  | x :: rest => rest.foldl min x

/-- The slots in order. -/
def allSlots : List (Fin 16) := [0, 1, 2, 3, 4, 5, 6, 7, 8, 9, 10, 11, 12, 13, 14, 15]

/-- What the table holds for a slot. -/
def slotEntry (table : List (Option Nat)) (slot : Fin 16) : Option Nat := table.getD slot.val none

/-- The slot that holds a sequence. -/
def slotOf (table : List (Option Nat)) (n : Nat) : Option (Fin 16) :=
  allSlots.find? fun slot => slotEntry table slot == some n

/-! ## Telegrams -/

/-- A bit in a byte's indicator position. -/
def bit (b : Bool) (weight : Nat) : Nat := if b then weight else 0

/-- The payload of the own beacon, assembled from the state of the owning blocks (R42, section 11.2.1). -/
def State.beaconPayload (s : State) : List Byte :=
  [lowByte s.mdu.phase, lowByte s.mdu.mode.code, lowByte s.slu.session.code] ++ be32 s.slu.session.id ++
  be16 s.she.claim ++ [lowByte (bit s.she.wanting 1 + bit s.imon.injecting 2), lowByte s.imon.insulation.code] ++
  be16 (FlagSet.code s.flu.flags) ++ be32 (newestSeq s.slu.table) ++
  (match s.thu.tmin with
   | some t => beS16 t
   | none => beS16 (-32768)) ++
  [lowByte s.she.dutyApplied]

/-- The payload of an ISO_RESULT (R108, section 11.2.5). -/
def resultPayload (seq : Nat) (kind : ResultKind) (value volts : Nat) : List Byte :=
  [lowByte seq, lowByte kind.code] ++ be16 value ++ be16 volts

/-- The status of a log reply (section 11.2.7). -/
inductive ReplyStatus where
  | record (bytes : List Byte)
  | notHeld
  | pendingWrite
  deriving DecidableEq, Repr

/-- The payload of a LOG_RECORD reply (R154, section 11.2.7). -/
def logReplyPayload (status : ReplyStatus) (table : List (Option Nat)) : List Byte :=
  match status with
  | .record bytes => lowByte 0 :: (be32 (oldestSeq table) ++ be32 (newestSeq table) ++ bytes)
  | .notHeld => lowByte 1 :: (be32 (oldestSeq table) ++ be32 (newestSeq table))
  | .pendingWrite => lowByte 2 :: (be32 (oldestSeq table) ++ be32 (newestSeq table))

/-! ## The session record -/

/-- The day of a stamp as written: 0 without valid time (R178). -/
def Stamp.dayField (t : Stamp) : Nat := if t.valid then t.day else 0
/-- The second of a stamp as written: 0 without valid time (R178). -/
def Stamp.secondField (t : Stamp) : Nat := if t.valid then t.second else 0

/-- An energy bin as written, saturated at 24 bits (R178). -/
def energyField (wh : Nat) : List Byte := be24 (min wh 16777215)

/-- Whether a peak counts its start minute from the opening. -/
def peakFromOpening : Option Peak → Bool
  | some p => p.basis == .opening
  | none => false

/-- The peak fields: 65535 and 0 for none, an OPEN start minute saturated at 65535 (R178). -/
def peakField : Option Peak → List Byte
  | none => be16 65535 ++ be16 0
  | some p => be16 p.watts ++ be16 (min p.start 65535)

/-- The 47 bytes of a session record (section 11.3, R178). -/
def SessionRecord.bytes (r : SessionRecord) : List Byte :=
  be32 r.seq ++ be32 r.id ++ [lowByte (r.station * 16 + r.phase)] ++
  be16 r.opened.dayField ++ be24 r.opened.secondField ++ be16 r.closed.dayField ++ be24 r.closed.secondField ++
  [lowByte (bit r.opened.valid 1 + bit r.closed.valid 2 + bit (peakFromOpening r.peak) 4),
   lowByte r.reason.code] ++
  energyField r.imp0 ++ energyField r.imp1 ++ energyField r.imp2 ++ energyField r.imp3 ++ energyField r.exp ++
  energyField r.heat ++ peakField r.peak ++
  (match r.minIns with
   | some k => be16 k
   | none => be16 65535) ++
  be16 (FlagSet.code r.flags)

end Sys2Proof.Machine
end

