-- ==== Sys2Proof/Machine/Memory.lean ====
section
/-! DEFINITION. The retained store: 16 slots of 48 bytes (R178), as a list of (address, byte) pairs with
rising addresses and no listed zero; an unlisted byte reads 0 (log 7). -/

namespace Sys2Proof.Machine

/-- What an address that is not listed reads as (log 7). -/
def blankByte : Byte := 0

/-- The byte at an address. -/
def readByte : Memory → Nat → Byte
  | [], _ => blankByte
  | (k, v) :: rest, a => if k = a then v else readByte rest a

/-- A memory with one byte written, in canonical form. -/
def writeByte : Memory → Nat → Byte → Memory
  | [], a, b => if b = blankByte then [] else [(a, b)]
  | (k, v) :: rest, a, b =>
    if a < k then (if b = blankByte then (k, v) :: rest else (a, b) :: (k, v) :: rest)
    else if a = k then (if b = blankByte then rest else (a, b) :: rest)
    else (k, v) :: writeByte rest a b

/-- Bytes written one after another from an address. -/
def writeBytes : Memory → Nat → List Byte → Memory
  | m, _, [] => m
  | m, a, b :: rest => writeBytes (writeByte m a b) (a + 1) rest

/-- `n` bytes read one after another from an address. -/
def readBytes (m : Memory) : Nat → Nat → List Byte
  | _, 0 => []
  | a, n + 1 => readByte m a :: readBytes m (a + 1) n

/-- The canonical form: every address is at least `lo` and below the next, and no listed byte is blank. -/
def wfFrom : Nat → Memory → Bool
  | _, [] => true
  | lo, (k, v) :: rest => lo ≤ k && v != blankByte && wfFrom (k + 1) rest

/-- The canonical form of a memory. -/
def Memory.wf (m : Memory) : Bool := wfFrom 0 m

/-- Bytes of one retained slot (R178). -/
def slotSize : Nat := 48

/-- The offset of the commit marker in a slot (R178). -/
def markerOffset : Nat := 47

/-- The address of an offset in a slot. -/
def slotAddr (slot : Fin 16) (offset : Nat) : Nat := slot.val * slotSize + offset

/-- The value of a commit marker (R178). -/
def markerValue : Byte := 0x5A

/-- The sequence of the record a slot holds, when its marker commits it (R148, R178). -/
def committedSeq (m : Memory) (slot : Fin 16) : Option Nat :=
  if readByte m (slotAddr slot markerOffset) = markerValue then
    some (rd32 (readBytes m (slotAddr slot 0) 4) 0)
  else none

/-- The marker cleared at the start of a write (R178). -/
def clearMarker (m : Memory) (slot : Fin 16) : Memory := writeByte m (slotAddr slot markerOffset) 0x00

/-- The record's bytes and then the marker (R178). -/
def commitRecord (m : Memory) (slot : Fin 16) (record : List Byte) : Memory :=
  writeByte (writeBytes m (slotAddr slot 0) record) (slotAddr slot markerOffset) markerValue

end Sys2Proof.Machine
end

