-- ==== Sys2Proof/Machine/Ops.lean ====
section
/-! DEFINITION. Shared operations over the peer bus interface: the random sequence (R29), the four
transmit slots with their held loads and withdrawals (R22 to R25), bus sensing (R20), and the running of
the blocks by mode (R1, R21). -/

namespace Sys2Proof.Machine

/-- Whether the converters, the peer bus interface and the blocks that handle events run: CONFIG_HOLD,
LISTENING, RUN and POWER_HOLD (R1, R21, R54, R72, R95, R169). -/
def Mode.runs : Mode → Bool
  | .configHold => true
  | .listening => true
  | .run => true
  | .powerHold => true
  | .start => false
  | .dormant => false

/-- Whether the blocks run. -/
def State.runs (s : State) : Bool := s.mdu.mode.runs

/-- Whether the bus is idle: the quiet time has reached 80 µs (R20). -/
def State.busIdle (s : State) : Bool := idleTime ≤ s.pbi.quiet

/-- The seed of the random sequence (R29). -/
def seedOf (station : Nat) : Nat := station * 4099 + 1

/-- The value that follows `x` in the random sequence (R29). -/
def nextRandom (x : Nat) : Nat := (x * 25173 + 13849) % 65536

/-- A draw: the sequence advances, and the value drawn is the new `pbi.random` (R29). -/
def State.draw (s : State) : State := { s with pbi.random := nextRandom s.pbi.random }

/-! ## Slots -/

/-- Whether an attempt of a slot is in progress. -/
def PeerBus.attempting (p : PeerBus) (k : SlotKind) : Bool :=
  match p.attempt with
  | some a => a.slot == k
  | none => false

/-- A payload as loaded: failed-attempt count 0. -/
def TxSlot.fresh (payload : List Byte) : TxSlot := { payload := payload, failed := 0 }

/-- INTENT loaded, or the load held while an attempt of INTENT runs (R24). -/
def State.loadIntent (payload : List Byte) (s : State) : State :=
  if s.pbi.attempting .intent then { s with pbi.heldIntent := some payload }
  else { s with pbi.intent := some (TxSlot.fresh payload) }

/-- INTENT withdrawn: emptied at once, or at the end of an attempt in progress (R24). -/
def State.withdrawIntent (s : State) : State :=
  if s.pbi.attempting .intent then { s with pbi.withdrawn := true, pbi.heldIntent := none }
  else { s with pbi.intent := none }

/-- RESULT loaded, or the load held while an attempt of RESULT runs (R24). -/
def State.loadResult (payload : List Byte) (s : State) : State :=
  if s.pbi.attempting .result then { s with pbi.heldResult := some payload }
  else { s with pbi.result := some (TxSlot.fresh payload) }

/-- A beacon request: it occupies or replaces, or is held while an attempt of BEACON runs (R23). -/
def State.requestBeacon (s : State) : State :=
  if s.pbi.attempting .beacon then { s with pbi.heldBeacon := true }
  else { s with pbi.beacon := some 0 }

/-- LOG_REPLY loaded (R25). -/
def State.loadReply (payload : List Byte) (s : State) : State :=
  { s with pbi.logReply := some (TxSlot.fresh payload) }

/-- The arbiter's choice: the first occupied slot in the order INTENT, RESULT, BEACON, LOG_REPLY (R22). -/
def PeerBus.choice (p : PeerBus) : Option SlotKind :=
  if p.intent.isSome then some .intent
  else if p.result.isSome then some .result
  else if p.beacon.isSome then some .beacon
  else if p.logReply.isSome then some .logReply
  else none

/-- A slot emptied. -/
def PeerBus.emptySlot (k : SlotKind) (p : PeerBus) : PeerBus :=
  match k with
  | .intent => { p with intent := none }
  | .result => { p with result := none }
  | .beacon => { p with beacon := none }
  | .logReply => { p with logReply := none }

/-- A slot's telegram with its failed-attempt count one higher. -/
def TxSlot.fail (t : TxSlot) : TxSlot := { t with failed := t.failed + 1 }

/-- The slot's failed-attempt count raised by 1 (R27). -/
def PeerBus.failSlot (k : SlotKind) (p : PeerBus) : PeerBus :=
  match k with
  | .intent => { p with intent := p.intent.map TxSlot.fail }
  | .result => { p with result := p.result.map TxSlot.fail }
  | .beacon => { p with beacon := p.beacon.map (· + 1) }
  | .logReply => { p with logReply := p.logReply.map TxSlot.fail }

/-- The slot's failed-attempt count (0 when empty). -/
def PeerBus.failures (k : SlotKind) (p : PeerBus) : Nat :=
  match k with
  | .intent => (p.intent.map TxSlot.failed).getD 0
  | .result => (p.result.map TxSlot.failed).getD 0
  | .beacon => p.beacon.getD 0
  | .logReply => (p.logReply.map TxSlot.failed).getD 0

/-- At the end of an attempt of a slot: a withdrawal made during it empties INTENT, and a load or request
held during it occupies the slot with count 0 (R23, R24). -/
def PeerBus.settleSlot (k : SlotKind) (p : PeerBus) : PeerBus :=
  match k with
  | .intent =>
    { p with
      intent := match p.heldIntent with
        | some b => some (TxSlot.fresh b)
        | none => if p.withdrawn then none else p.intent,
      heldIntent := none, withdrawn := false }
  | .result =>
    { p with
      result := match p.heldResult with
        | some b => some (TxSlot.fresh b)
        | none => p.result,
      heldResult := none }
  | .beacon => { p with beacon := if p.heldBeacon then some 0 else p.beacon, heldBeacon := false }
  | .logReply => p

/-! ## Timers -/

/-- Whether a timer of a whole length runs and time has passed since it was set: an expiry at the very instant of a
restart is of the time before it (log 2). -/
def hasRun (whole : Nat) : Option Nat → Bool
  | some left => left < whole
  | none => false

/-! ## Bus sensing -/

/-- Whether the receiver has taken up the telegram that an arrival completes: another station's telegram is being
collected, or the whole telegram comes on an idle bus with no own attempt (R32, log 10). -/
def State.takesUp (s : State) : Bool :=
  (s.pbi.receiving && s.pbi.foreign) || (s.busIdle && s.pbi.attempt.isNone)

/-- The end of a take-up: the receiver collects nothing, and waits for the bus to be idle again (R32). -/
def State.takeUpEnds (s : State) : State := { s with pbi.foreign := false, pbi.receiving := false }

/-- The end of a telegram on the bus: the take-up ends, and the quiet time restarts (R20, R28, R32; log 10). -/
def State.telegramEnds (s : State) : State := { s.takeUpEnds with pbi.quiet := 0 }

/-- Whether the bus is idle, or becomes idle at this very instant: the quiet time has at most its last microsecond to
run, which is BUS_IDLE's own (R20, log 10). -/
def State.idleNow (s : State) : Bool := idleTime ≤ s.pbi.quiet + 1

end Sys2Proof.Machine
end

