-- ==== Sys2Proof/Machine/Meter.lean ====
section
/-! DEFINITION. Chapter 7, the energy meter: the quantum (R118), import and export (R121), tariff classes
(R123), demand intervals (R125 to R130), heating (R131, R132) and the totals (R133 to R135). -/

namespace Sys2Proof.Machine

/-- 9·10¹¹·32768, the numerator of the quantum (R118). -/
def quantumScale : Nat := 29491200000000000

/-- Qraw: the quotient rounded half up (R118). -/
def quantumOf (gain : Nat) : Nat := (2 * quantumScale + gain) / (2 * gain)

/-- The demand interval length L, minutes (section 7.2). -/
def State.intervalMinutes (s : State) : Nat :=
  match s.mdu.cfg.demandCode with
  | 0 => 1
  | 1 => 5
  | _ => 15

/-- The demand interval length in seconds, 60·L. -/
def State.intervalSeconds (s : State) : Nat := 60 * s.intervalMinutes

/-! ## Intervals -/

/-- An interval aligned to the clock from second `s` (R125, time-valid): the smallest multiple of `len` above
`s`, 86400 written 0. -/
def alignedInterval (len s : Nat) : Interval :=
  { finish := (s / len + 1) * len % 86400, start := s / 60, basis := .day }

/-- The first interval without valid time (R125). -/
def unalignedInterval (len s : Nat) : Interval := { finish := (s + len) % 86400, start := 0, basis := .opening }

/-- The interval that starts at the opening (R125). -/
def State.firstInterval (s : State) : Interval :=
  if s.clock.valid then alignedInterval s.intervalSeconds s.clock.second
  else unalignedInterval s.intervalSeconds s.clock.second

/-- The demand a peak stands for: none counts as 0 (R130). -/
def peakWatts : Option Peak → Nat
  | some p => p.watts
  | none => 0

/-- A demand offered to the peak (R130): it replaces the peak when it is above it, and above 0. -/
def offerPeak (peak : Option Peak) (i : Interval) (watts : Nat) : Option Peak :=
  if peakWatts peak < watts then some { watts := watts, start := i.start, basis := i.basis } else peak

/-- The peak after the running interval has ended with a demand. -/
def Meter.peakAfter (m : Meter) (watts : Nat) : Option Peak :=
  match m.interval with
  | some i => offerPeak m.peak i watts
  | none => m.peak

/-! ## Opening, departure, hand-over -/

/-- The entry into OPEN (R120). -/
def State.meterOpens (s : State) : State :=
  { s with emt := { Meter.start s.emt.qraw with active := true, interval := some s.firstInterval } }

/-- The four import bins together. -/
def Meter.importSum (m : Meter) : Nat := m.imp0 + m.imp1 + m.imp2 + m.imp3

/-- The departure from OPEN (R129, R132): the last interval ends unscaled, the residue and the heat
accumulator's residue are discarded, the heating total is formed, the totals are held. -/
def Meter.departed (m : Meter) : Meter :=
  { m with
    peak := m.peakAfter m.count, acc := 0, heatAcc := 0, count := 0, interval := none, active := false,
    held := true, heatTotal := min m.heatCount m.importSum }

/-- The departure from OPEN at the meter (R129). -/
def State.meterDeparts (s : State) : State := { s with emt := s.emt.departed }

/-- The entry into IDLE from ENDED (R135). -/
def State.meterIdles (s : State) : State := { s with emt := Meter.start s.emt.qraw }

/-! ## Samples -/

/-- The windows the meter reads (R45): none in NONE. -/
def State.tariffWindows (s : State) : List Window :=
  match s.pvt.record with
  | some r => r.windows
  | none => []

/-- The window with the greatest start at or below a minute (R123). -/
def windowAt (minute : Nat) (ws : List Window) : Option Window :=
  ws.foldl (fun best w =>
    if w.start ≤ minute then
      match best with
      | some b => if b.start < w.start then some w else some b
      | none => some w
    else best) none

/-- The class of a minute (R123): before the first start the last window of the list, no list class 0. -/
def classAt (minute : Nat) (ws : List Window) : Nat :=
  match windowAt minute ws with
  | some w => w.cls
  | none =>
    match ws.getLast? with
    | some w => w.cls
    | none => 0

/-- The minute of day (section 3.7). -/
def Clock.minute (c : Clock) : Nat := c.second / 60

/-- The tariff class at an import quantum (R123). -/
def State.tariffClass (s : State) : Nat :=
  if s.clock.valid then classAt s.clock.minute s.tariffWindows else 0

/-- One Wh added to the import bin of a class (R121). -/
def Meter.addImport (cls : Nat) (m : Meter) : Meter :=
  match cls with
  | 0 => { m with imp0 := m.imp0 + 1, count := m.count + 1 }
  | 1 => { m with imp1 := m.imp1 + 1, count := m.count + 1 }
  | 2 => { m with imp2 := m.imp2 + 1, count := m.count + 1 }
  | _ => { m with imp3 := m.imp3 + 1, count := m.count + 1 }

/-- The accumulator after a product, with the quantum it gives (R121). -/
def Meter.addProduct (p : Int) (cls : Nat) (m : Meter) : Meter :=
  if (m.qraw : Int) ≤ m.acc + p then Meter.addImport cls { m with acc := m.acc + p - m.qraw }
  else if m.acc + p ≤ -(m.qraw : Int) then { m with acc := m.acc + p + m.qraw, exp := m.exp + 1 }
  else { m with acc := m.acc + p }

/-- A metering sample at the meter (R121). -/
def State.meterSample (v i : Int) (s : State) : State :=
  if s.emt.active then { s with emt := s.emt.addProduct (v * i) s.tariffClass } else s

/-- Units of the heat accumulator in 1 Wh (R131). -/
def heatUnits : Nat := 360000

/-- The heat accumulator after one scan (R131). -/
def Meter.addHeat (ph : Nat) (m : Meter) : Meter :=
  if heatUnits ≤ m.heatAcc + ph then
    { m with heatAcc := m.heatAcc + ph - heatUnits, heatCount := m.heatCount + 1 }
  else { m with heatAcc := m.heatAcc + ph }

/-- A scan complete at the meter (R131). -/
def State.meterScan (s : State) : State :=
  if s.emt.active then { s with emt := s.emt.addHeat s.she.phApplied } else s

/-! ## The clock at the meter -/

/-- Whether the running interval has ended at second `s` (R126). -/
def Interval.ended (i : Interval) (len s : Nat) : Bool := decide ((s + 86400 - i.finish) % 86400 < len)

/-- The interval that follows a regular end (R126); the index has already risen. -/
def Interval.next (i : Interval) (minutes index : Nat) : Interval :=
  { finish := (i.finish + 60 * minutes) % 86400,
    start := match i.basis with
      | .day => i.finish / 60
      | .opening => index * minutes,
    basis := i.basis }

/-- The interval index after a regular end: it counts the ends of intervals of basis OPEN (R126). -/
def Interval.indexAfter (i : Interval) (index : Nat) : Nat :=
  match i.basis with
  | .day => index
  | .opening => index + 1

/-- A regular end (R126): the demand is the count scaled by 60/L. -/
def Meter.regularEnd (minutes : Nat) (i : Interval) (m : Meter) : Meter :=
  { m with
    peak := offerPeak m.peak i (m.count * 60 / minutes), count := 0, index := i.indexAfter m.index,
    interval := some (i.next minutes (i.indexAfter m.index)) }

/-- A one-second advance at the meter, with the clock already advanced (R126). -/
def State.meterSecond (s : State) : State :=
  match s.emt.active, s.emt.interval with
  | true, some i =>
    if i.ended s.intervalSeconds s.clock.second then { s with emt := s.emt.regularEnd s.intervalMinutes i }
    else s
  | _, _ => s

/-- A time jump at the meter, with the clock already set (R128): the running interval ends unscaled and the
next is aligned to the new time. -/
def State.meterJump (s : State) : State :=
  if s.emt.active then
    { s with
      emt.peak := s.emt.peakAfter s.emt.count, emt.count := 0,
      emt.interval := some (alignedInterval s.intervalSeconds s.clock.second) }
  else s

end Sys2Proof.Machine
end

