-- ==== Sys2Proof/Machine/Share.lean ====
section
/-! DEFINITION. Chapter 5, the share engine, with the part of chapter 4 that switches HTR by what the share
engine grants (R68, R69): the claim computation (R75 to R79), recomputation (R81), the drawn claim (R83),
the setpoint conversion (R85 to R88) and the overdraw check (R89 to R92). -/

namespace Sys2Proof.Machine

/-! ## The claim, stage by stage -/

/-- FRESH: an age below 3 (R38, log 23). -/
def Entry.fresh (e : Entry) : Bool := e.age < 3

/-- An entry of S as the computation reads it (R75): freshness and module part. -/
structure Mate where
  fresh : Bool
  claim : Nat
  wanting : Bool
  deriving DecidableEq, Repr

/-- The entry's place in S: a MODULE entry whose module part has the own phase (R75). -/
def Entry.mate (phase : Nat) (e : Entry) : Option Mate :=
  match e.role, e.part with
  | .module, some p =>
    if p.phase = some phase then some { fresh := e.fresh, claim := p.claim, wanting := p.wanting } else none
  | _, _ => none

/-- The set S (R75). -/
def samePhase (phase : Nat) (view : List Entry) : List Mate := view.filterMap (Entry.mate phase)

/-- The limit of a phase in a record. -/
def Contract.limitOf (r : Contract) (phase : Nat) : Nat :=
  match phase with
  | 1 => r.lim1
  | 2 => r.lim2
  | 3 => r.lim3
  | _ => 0

/-- The own-phase limit Lp: the limit of the strapped phase in HELD, 0 otherwise (R44, R75). -/
def State.ownLimit (s : State) : Nat :=
  match s.pvt.record with
  | some r =>
    match r.status with
    | .held => r.limitOf s.mdu.phase
    | _ => 0
  | none => 0

/-- The pool P (R76 stage 1). -/
def pool (lp mg : Nat) : Nat := lp - mg

/-- The fair share F (R76 stage 2). -/
def fairShare (p : Nat) (set : List Mate) : Nat := p / (set.length + 1)

/-- The claims of the others O (R76 stage 3). -/
def othersClaim (set : List Mate) : Nat := (set.map Mate.claim).sum

/-- The headroom H (R76 stage 4). -/
def headroom (p : Nat) (set : List Mate) (c : Nat) : Int := (p : Int) - othersClaim set - c

/-- The wanting count W (R76 stage 5). -/
def wantingCount (own : Bool) (set : List Mate) : Nat :=
  max 1 ((if own then 1 else 0) + set.countP fun e => e.fresh && e.wanting)

/-- Whether a starved peer is heard asking (R77). -/
def starved (f : Nat) (set : List Mate) : Bool := set.any fun e => e.fresh && e.wanting && e.claim < f

/-- The candidate with headroom: the ramp, replaced by the give-back (R77). -/
def rampCandidate (c ramp f w : Nat) (h : Nat) (set : List Mate) : Nat :=
  if starved f set ∧ f < c then max f (c - ramp) else c + min ramp (h / w)

/-- W_over: the stations, self included, whose claim is above F (R78 stage 1). -/
def overCount (c f : Nat) (set : List Mate) : Nat :=
  max 1 ((if f < c then 1 else 0) + set.countP fun e => decide (f < e.claim))

/-- The overcommit shed, with the excess −H (R78 stage 2). -/
def shedCandidate (c f excess : Nat) (set : List Mate) : Nat :=
  max (min c f) (c - ceilDiv excess (overCount c f set))

/-- The candidate claim (R77, R78). -/
def candidate (c ramp : Nat) (own : Bool) (p : Nat) (set : List Mate) : Nat :=
  if 0 ≤ headroom p set c then
    rampCandidate c ramp (fairShare p set) (wantingCount own set) (headroom p set c).toNat set
  else shedCandidate c (fairShare p set) (-headroom p set c).toNat set

/-- Whether a zeroing condition of R79 holds. -/
def State.claimBarred (s : State) : Bool :=
  s.mdu.mode != .run || !s.slu.session.isOpen || s.mfe.line != .good || s.imon.insulation == .fault ||
  s.latched .dupId || s.latched .thermSensor || s.latched .frontEnd

/-- The claim c' of one computation that reads the given peer view (R75 to R79). -/
def State.computedClaim (s : State) (view : List Entry) : Nat :=
  if s.claimBarred then 0
  else
    min (candidate s.she.claim s.mdu.cfg.ramp s.she.wanting (pool s.ownLimit s.mdu.cfg.margin)
        (samePhase s.mdu.phase view))
      (min s.she.demand (min s.mdu.cfg.cmax (pool s.ownLimit s.mdu.cfg.margin)))

/-! ## Duty in force and HTR -/

/-- The duty in force by its gate (R68). -/
def State.gatedDuty (s : State) : Nat :=
  if s.thu.heater = .on ∧ s.slu.session.isOpen ∧ s.mdu.mode = .run then s.she.dutyApplied else 0

/-- The duty in force formed again (R68): a fall to the current step index or below opens HTR at once, a
rise waits for the next step boundary (R69, R70). -/
def State.applyDuty (s : State) : State :=
  { s with
    thu.inForce := s.gatedDuty,
    thu.htr := s.thu.htr && !(s.gatedDuty < s.thu.inForce && s.gatedDuty ≤ s.thu.step) }

/-! ## Setpoint conversion -/

/-- The heater duty allowed (R86). -/
def dutyAllowed (dutyReq phFull pDc : Nat) : Nat := if phFull = 0 then 0 else min dutyReq (pDc * 16 / phFull)

/-- The DC setpoint (R87): 0 below 1000 dV and while the overdraw hold is on. -/
def setpoint (hold : Bool) (idcCap left ustr : Nat) : Nat :=
  if hold ∨ ustr < 1000 then 0 else min idcCap (left * 100 / ustr)

/-- Ustr of the latest published record as the power arithmetic reads it; before the first scan Idc_cap is
0 and no setpoint depends on it. -/
def State.ustr (s : State) : Nat := s.mfe.record.ustr.getD 0

/-- P_in_avail (R85 stage 1). -/
def State.pIn (s : State) : Nat := s.she.drawn * s.mfe.urms / 100

/-- P_dc_avail (R85 stage 2). -/
def State.pDc (s : State) : Nat := s.pIn * s.mdu.cfg.yield / 1000

/-- duty_applied of this conversion (R85 stage 3). -/
def State.dutyNow (s : State) : Nat := dutyAllowed s.thu.dutyReq s.thu.phFull s.pDc

/-- Ph_applied of this conversion (R85 stage 4). -/
def State.phNow (s : State) : Nat := s.dutyNow * s.thu.phFull / 16

/-- Idc_set of this conversion (R85 stage 5). -/
def State.idcNow (s : State) : Nat := setpoint s.she.hold s.thu.idcCap (s.pDc - s.phNow) s.ustr

/-- The setpoint conversion (R85), with CHG_EN and the current reference (R88) and the hand-over of
duty_applied to the thermal unit (R68). -/
def State.convert (s : State) : State :=
  State.applyDuty
    { s with
      she.pInAvail := s.pIn, she.pDcAvail := s.pDc, she.dutyApplied := s.dutyNow, she.phApplied := s.phNow,
      she.idcSet := s.idcNow, she.chgEn := decide (0 < s.idcNow), she.iRef := s.idcNow }

/-! ## Claim, drawn claim and demand changed -/

/-- c changed: the wanting flag (R74) and D (R83) are formed again. -/
def State.setClaim (c : Nat) (s : State) : State :=
  { s with she.claim := c, she.wanting := decide (c < s.she.demand), she.drawn := min c s.she.claimTx }

/-- d changed: the wanting flag is formed again (R74). -/
def State.setDemand (d : Nat) (s : State) : State :=
  { s with she.demand := d, she.wanting := decide (s.she.claim < d) }

/-- A recomputation (R81): c takes min(c, c'), and only a lowered claim forms the wanting flag and D again
and runs the conversion. -/
def State.recompute (s : State) : State :=
  if s.computedClaim s.pvt.view < s.she.claim then (s.setClaim (s.computedClaim s.pvt.view)).convert else s

/-- The claim computation of an own beacon period, reading the given view (R80): the conversion runs when D
has changed. -/
def State.periodClaim (view : List Entry) (s : State) : State :=
  if (s.setClaim (s.computedClaim view)).she.drawn = s.she.drawn then s.setClaim (s.computedClaim view)
  else (s.setClaim (s.computedClaim view)).convert

/-- A "beacon sent" report with the claim carried (R83). -/
def State.beaconSent (claim : Nat) (s : State) : State :=
  if min s.she.claim claim = s.she.drawn then
    { s with she.claimTx := claim, she.drawn := min s.she.claim claim }
  else State.convert { s with she.claimTx := claim, she.drawn := min s.she.claim claim }

/-! ## Demand -/

/-- The demand of a thermal update (R73), every gate open. -/
def demandOf (idcCap ustr phReq yield urms : Nat) : Nat :=
  if ustr < 1000 then 0
  else ceilDiv (ceilDiv ((idcCap * ustr / 100 + phReq) * 1000) yield * 100) (max urms 1800)

/-- d at a thermal update (R73). -/
def State.demandNow (s : State) : Nat :=
  if s.slu.session.isOpen ∧ s.mdu.mode = .run ∧ s.mfe.line = .good then
    demandOf s.thu.idcCap s.ustr s.thu.phReq s.mdu.cfg.yield s.mfe.urms
  else 0

/-- A thermal update at the share engine: the demand, then the conversion (R73, R85). -/
def State.thermalUpdate (s : State) : State := (s.setDemand s.demandNow).convert

/-! ## What the share engine does at its neighbours' reports -/

/-- The session leaves OPEN: d is 0, the overdraw hold goes off, the claim is recomputed (R74, R91, R81). -/
def State.shareLeavesOpen (s : State) : State :=
  State.recompute { s.setDemand 0 with she.hold := false }

/-- The mode is other than RUN: d is 0, the hold goes off, the overdraw timer stops, the claim is recomputed
(R74, R89, R91, R81). -/
def State.shareLeavesRun (s : State) : State :=
  State.recompute { s.setDemand 0 with she.hold := false, she.overdrawTimer := none }

/-- PWR_FAIL at the share engine (R93). -/
def State.shareShutdown (s : State) : State :=
  { s with
    she.demand := 0, she.wanting := false, she.claim := 0, she.drawn := 0, she.pInAvail := 0,
    she.pDcAvail := 0, she.phApplied := 0, she.dutyApplied := 0, she.idcSet := 0, she.chgEn := false,
    she.iRef := 0, she.overdrawTimer := none, she.hold := false }

/-! ## Overdraw -/

/-- The overdraw limit (R89). -/
def overdrawLimit (d : Nat) : Nat := d + d / 10 + 5

/-- The overdraw timer after a completed cycle in RUN with the condition not holding (R89). -/
def overdrawTimerAfter (exceeds : Bool) (timer : Option Nat) : Option Nat :=
  match exceeds, timer with
  | true, none => some overdrawTime
  | true, some t => some t
  | false, _ => none

/-- A completed line cycle at the share engine (R89, R92): in every mode a cycle within the limit ends the
condition; in RUN the timer starts, runs on or stops, and it does not start while the condition holds. -/
def State.overdrawCheck (irms : Nat) (s : State) : State :=
  if s.she.overdraw then
    if overdrawLimit s.she.drawn < irms then s
    else { s with she.overdraw := false, she.overdrawTimer := none }
  else if s.mdu.mode = .run then
    { s with
      she.overdrawTimer := overdrawTimerAfter (overdrawLimit s.she.drawn < irms) s.she.overdrawTimer }
  else s

end Sys2Proof.Machine
end

