-- ==== Sys2Proof/Machine/Sequencer.lean ====
section
/-! DEFINITION. Chapter 6, sections 6.1 to 6.3: the injection sequencer, its timers and draws, the intents,
ISO_SW and the injecting flag. -/

namespace Sys2Proof.Machine

/-- The setting of ISO_SW in a phase (R94). -/
def Phase.switch : Phase → IsoSw
  | .p1 => .plus
  | .p2 => .minus
  | .p3 => .minus
  | .p4 => .plus

/-- The setting of ISO_SW in a sequencer state: open in every state but INJECTING (R94). -/
def Seq.switch : Seq → IsoSw
  | .injecting p _ => p.switch
  | _ => .opened

/-- The injecting flag in a sequencer state (R104). -/
def Seq.flag : Seq → Bool
  | .window _ => true
  | .injecting _ _ => true
  | _ => false

/-- The sampling clock in a sequencer state: it runs in INJECTING alone, the next sample 4 ms away (R17). -/
def Seq.samplingClock : Seq → Option Nat
  | .injecting _ _ => some insulationPeriod
  | _ => none

/-- Whether a sequencer state has a timer with time left. -/
def Seq.timed : Seq → Bool
  | .waiting t => 0 < t
  | .window t => 0 < t
  | .holdoff t => 0 < t
  | .off => false
  | .pending => false
  | .injecting _ _ => false

/-- The sequencer in a state, with the ISO_SW setting, the injecting flag and the sampling clock that go
with it (R94, R104, R17); a timer is set with it (log 2). -/
def State.setSeq (q : Seq) (s : State) : State :=
  { s with
    imon.seq := q, imon.timerFresh := q.timed, imon.injecting := q.flag, imon.isoSw := q.switch,
    mfe.insClock := q.samplingClock }

/-- The phase sums discarded. -/
def State.clearSums (s : State) : State := { s with imon.sums := ⟨0, 0, 0, 0⟩ }

/-! ## WAITING, HOLDOFF, OFF -/

/-- Interval plus spread for a drawn value, microseconds (R99). -/
def State.spreadInterval (s : State) : Nat :=
  (s.mdu.cfg.interval + s.pbi.random % (s.mdu.cfg.interval / 8 + 1)) * 1000000

/-- The prompt delay of a drawn value, microseconds (R96, R100). -/
def State.promptDelay (s : State) : Nat := s.pbi.random % 1001 * 1000

/-- WAITING with interval plus spread, with its own draw (R99). -/
def State.enterWaiting (s : State) : State := s.draw.setSeq (.waiting s.draw.spreadInterval)

/-- HOLDOFF for 1 to 8 s, with its own draw (R101). -/
def State.enterHoldoff (s : State) : State := s.draw.setSeq (.holdoff ((s.draw.pbi.random % 8 + 1) * 1000000))

/-- The sequencer becomes OFF and ends what it was doing: a pending intent is withdrawn, a measurement's
sums are discarded without a result (R96). -/
def State.sequencerOff (s : State) : State :=
  match s.imon.seq with
  | .pending => s.withdrawIntent.setSeq .off
  | .injecting _ _ => s.clearSums.setSeq .off
  | _ => s.setSeq .off

/-- Whether one of the four conditions that hold the sequencer OFF holds (R96). -/
def State.sequencerBarred (s : State) : Bool :=
  s.mdu.mode != .run || s.latched .injector || s.latched .dupId || s.latched .config

/-- The sequencer leaves OFF for WAITING when no condition holds any more: the prompt delay for a PENDING
session without clearance, interval plus spread otherwise (R96). -/
def State.leaveOff (s : State) : State :=
  if s.imon.seq = .off ∧ !s.sequencerBarred then
    if s.slu.session.isPending ∧ !s.imon.clearance then s.draw.setSeq (.waiting s.draw.promptDelay)
    else s.enterWaiting
  else s

/-! ## Turns -/

/-- Whether an entry shows its injecting flag: FRESH entries with a module part (R97). -/
def Entry.showsInjecting (e : Entry) : Bool :=
  e.fresh && match e.part with
    | some p => p.injecting
    | none => false

/-- Whether the HV bus is claimed in the station's view (R97). -/
def State.busClaimed (s : State) : Bool :=
  s.imon.peerIntent.isSome || s.pvt.view.any Entry.showsInjecting

/-- The next intent sequence, wrapping from 255 to 0 (R98). -/
def State.nextIntent (s : State) : Nat := (s.imon.intentSeq + 1) % 256

/-- An intent loaded with the next sequence, and INTENT, pending (R98, R101). -/
def State.startIntent (s : State) : State :=
  State.setSeq .pending
    ({ s with imon.intentSeq := s.nextIntent }.loadIntent [lowByte s.nextIntent])

/-- The decision when the interval or the holdoff timer runs out (R98, R101). -/
def State.takeTurn (s : State) : State := if s.busClaimed then s.enterHoldoff else s.startIntent

/-- The bus voltage a result carries: Ustr of the latest published record (R108), a free value while the
record is empty (log 18). -/
def State.busVoltage (s : State) : Nat :=
  match s.mfe.record.ustr with
  | some u => u
  | none => Config.emptyRecordUstr s.imon.intentSeq

/-- A result loaded into the RESULT slot (R108). -/
def State.loadOwnResult (kind : ResultKind) (value : Nat) (s : State) : State :=
  s.loadResult (resultPayload s.imon.intentSeq kind value s.busVoltage)

/-- A measurement aborted: ISO_SW opens and sampling stops with the departure from INJECTING, the sums are
discarded, INTERFERED is loaded, HOLDOFF (R106, R107). -/
def State.abortMeasurement (s : State) : State := (s.clearSums.loadOwnResult .interfered 0).enterHoldoff

/-- What a peer's intent or injecting flag does to an own intent, window or measurement (R102, R103, R107). -/
def State.standBack (s : State) : State :=
  match s.imon.seq with
  | .pending => s.withdrawIntent.enterHoldoff
  | .window _ => s.enterHoldoff
  | .injecting _ _ => s.abortMeasurement
  | _ => s

/-- An "intent sent" report (R102). -/
def State.intentSent (s : State) : State :=
  match s.imon.seq with
  | .pending => s.setSeq (.window windowTime)
  | _ => s

/-- An "intent dropped" report (R102). -/
def State.intentDropped (s : State) : State :=
  match s.imon.seq with
  | .pending => s.enterHoldoff
  | _ => s

/-- The end of the listen window: INJECTING begins (R103). -/
def State.startInjecting (s : State) : State := s.clearSums.setSeq (.injecting .p1 0)

/-- The entry of the session into PENDING at the monitor: the clearance is withdrawn (R116), and a WAITING
sequencer takes the lesser of its remaining time and a prompt delay (R100). -/
def State.monitorPending (s : State) : State :=
  match s.imon.seq with
  | .waiting t =>
    { s.draw with imon.clearance := false }.setSeq (.waiting (min t s.draw.promptDelay))
  | _ => { s with imon.clearance := false }

/-- C, the confirm count (section 6.1). -/
def State.confirm (s : State) : Nat := 2 ^ s.mdu.cfg.confirmCode

/-- The entry of the session into IDLE at the monitor: the clearance is withdrawn (R116), and a FAULT whose
good results have been heard ends (R114, R115), reported to the share engine (R117). -/
def State.monitorIdle (s : State) : State :=
  if s.imon.insulation = .fault ∧ s.confirm ≤ s.imon.aboveWarn then
    State.recompute { s with imon.clearance := false, imon.insulation := .good }
  else { s with imon.clearance := false }

end Sys2Proof.Machine
end

