-- ==== Sys2Proof/Machine/Session.lean ====
section
/-! DEFINITION. Chapter 8, the session unit: opening (R137, R138), return to IDLE (R139), ending (R141,
R143), the closing buffer and the start of a write (R146, R149), the test at IDLE (R147), and the latch of
a flag with its reports (R156). -/

namespace Sys2Proof.Machine

/-! ## Stamps and records -/

/-- A stamp of the local clock: day 0 and second 0 without valid time (R144). -/
def Clock.stamp (c : Clock) : Stamp :=
  if c.valid then { day := c.day, second := c.second, valid := true } else { day := 0, second := 0, valid := false }

/-- The record begun at the entry into OPEN (R144, R145). -/
def State.newRecord (id : Nat) (s : State) : OpenRecord :=
  { id := id, station := s.mdu.station, phase := s.mdu.phase, opened := s.clock.stamp, minIns := none,
    flags := s.flu.flags }

/-- The completed record with its sequence and the meter's totals (R144, R146). -/
def State.completeRecord (r : OpenRecord) (reason : EndReason) (closed : Stamp) (seq : Nat) (s : State) :
    SessionRecord :=
  { seq := seq, id := r.id, station := r.station, phase := r.phase, opened := r.opened, closed := closed,
    reason := reason, imp0 := s.emt.imp0, imp1 := s.emt.imp1, imp2 := s.emt.imp2, imp3 := s.emt.imp3,
    exp := s.emt.exp, heat := s.emt.heatTotal, peak := s.emt.peak, minIns := r.minIns, flags := r.flags }

/-! ## Opening -/

/-- Whether the session unit handles session events in the mode (R136). -/
def Mode.handlesSessions : Mode → Bool
  | .listening => true
  | .run => true
  | .powerHold => true
  | _ => false

/-- The opening test's conditions (R138). -/
def State.mayOpen (s : State) : Bool :=
  s.mdu.mode == .run && s.mfe.line == .good && s.imon.clearance && !s.latched .dupId &&
  !s.latched .thermSensor && !s.latched .frontEnd

/-- The entry into OPEN (R138), reported to the energy meter, the share engine and the thermal unit. -/
def State.openSession (id : Nat) (s : State) : State :=
  ({ s with slu.session := .opened (s.newRecord id) none }.meterOpens).recompute.applyDuty

/-- The opening test (R138). -/
def State.openingTest (s : State) : State :=
  match s.slu.session with
  | .pending id _ => if s.mayOpen then s.openSession id else s
  | _ => s

/-- The entry into PENDING (R137), reported to the share engine and the insulation monitor (R136), and the
opening test at the entry (R138). -/
def State.enterPending (id : Nat) (s : State) : State :=
  ({ s with slu.session := .pending id pendingTime }.recompute).monitorPending.openingTest

/-- The test of R137 and R147 in IDLE on an offered session. -/
def State.offerSession (plugged : Bool) (id : Nat) (s : State) : State :=
  if s.slu.session.isIdle ∧ (s.mdu.mode = .listening ∨ s.mdu.mode = .run) ∧ plugged ∧ id ≠ 0 ∧
      id ≠ s.pvt.halted then s.enterPending id
  else s

/-- The return of a PENDING session to IDLE (R139), reported to the insulation monitor and the share engine;
the thermal unit's gate is formed again (R68). -/
def State.returnToIdle (s : State) : State :=
  match s.slu.session with
  | .pending .. => ({ s with slu.session := .idle }.monitorIdle).recompute.applyDuty
  | _ => s

/-- The test at an entry into IDLE from ENDED (R147). -/
def State.retest (s : State) : State :=
  match s.pvt.record with
  | some r => s.offerSession r.plugged r.session
  | none => s

/-! ## The retained store -/

/-- The lowest-numbered empty slot, other than a failed one (R149, R150). -/
def emptySlotOf (table : List (Option Nat)) (failed : Option (Fin 16)) : Option (Fin 16) :=
  allSlots.find? fun k => (slotEntry table k).isNone && failed != some k

/-- The target of a write: the lowest empty slot, otherwise the slot of the oldest record (R149, R150). -/
def targetOf (table : List (Option Nat)) (failed : Option (Fin 16)) : Fin 16 :=
  match emptySlotOf table failed with
  | some k => k
  | none => (slotOf table (oldestSeq table)).getD 0

/-- The start of a write: the target's marker is cleared, and its record leaves the table (R149). -/
def State.startWrite (record : SessionRecord) (failed : Option (Fin 16)) (s : State) : State :=
  { s with
    slu.buffer := some
      { record := record, target := targetOf s.slu.table failed, failedSlot := failed, left := writeTime },
    slu.table := s.slu.table.set (targetOf s.slu.table failed).val none,
    store := clearMarker s.store (targetOf s.slu.table failed) }

/-! ## Latches -/

/-- A flag added to the flag set of an OPEN session (R145). -/
def Session.addFlag (f : Flag) : Session → Session
  | .opened r t => .opened { r with flags := FlagSet.insert r.flags f } t
  | x => x

/-- A flag made latched: ALERT is updated, the share engine recomputes, and an OPEN session's set takes the
flag (R156, R81, R145). -/
def State.raiseFlag (f : Flag) (s : State) : State :=
  State.recompute
    (State.updateAlert
      { s with flu.flags := FlagSet.insert s.flu.flags f, slu.session := s.slu.session.addFlag f })

/-! ## Ending -/

/-- The session made IDLE from ENDED, reported to the energy meter, the insulation monitor and the share
engine, and then the test of R147 (R146 steps 4 to 6). -/
def State.idleAfterEnd (s : State) : State :=
  ({ s with slu.session := .idle }.meterIdles).monitorIdle.recompute.applyDuty.retest

/-- The sequence the next record takes: newest + 1, so 1 when the table holds none (R146). -/
def State.nextSequence (s : State) : Nat := newestSeq s.slu.table + 1

/-- LOG latched, unless it is already (R146, R150): no session is OPEN or PENDING then. -/
def State.latchLog (s : State) : State := if s.latched .log then s else s.raiseFlag .log

/-- A session in ENDED moves into a free closing buffer (R146); with no sequence number left its record is
discarded and LOG is latched. -/
def State.moveToBuffer (s : State) : State :=
  match s.slu.session, s.slu.buffer with
  | .ended r reason closed, none =>
    if lastSequence ≤ newestSeq s.slu.table then s.latchLog.idleAfterEnd
    else (s.startWrite (s.completeRecord r reason closed s.nextSequence) none).idleAfterEnd
  | _, _ => s

/-- The end of an OPEN session (R143), reported to the energy meter, the thermal unit and the share engine;
the record moves into a free buffer. -/
def State.endSession (reason : EndReason) (s : State) : State :=
  match s.slu.session with
  | .opened r _ =>
    ({ s with slu.session := .ended r reason s.clock.stamp }.meterDeparts).applyDuty.shareLeavesOpen.moveToBuffer
  | _ => s

/-- The end of an OPEN session that a latch brings: FRONTEND and DUP_ID alone (R141, R156). -/
def State.latchEnds (f : Flag) (s : State) : State :=
  match f with
  | .frontEnd => s.endSession .frontEndFault
  | .dupId => s.endSession .duplicateId
  | _ => s

/-- What the session unit does at a latch in the modes in which it handles events (R136), the flag having
been added to an OPEN session's set: an end, and the opening test of a PENDING session (R156, R138). -/
def State.sessionLatch (f : Flag) (s : State) : State :=
  if s.mdu.mode.handlesSessions then (s.latchEnds f).openingTest else s

/-- What the insulation monitor does at a latch: DUP_ID makes the sequencer OFF (R96, R156). -/
def State.monitorLatch (f : Flag) (s : State) : State :=
  match f with
  | .dupId => s.sequencerOff
  | _ => s

/-- A latch request (R155, R156): nothing for a flag already latched; otherwise the latch with its reports,
the share engine first, then the insulation monitor, then the session unit (log 16). -/
def State.latch (f : Flag) (s : State) : State :=
  if s.latched f then s else ((s.raiseFlag f).monitorLatch f).sessionLatch f

end Sys2Proof.Machine
end

