-- ==== Sys2Proof/Machine/Monitor.lean ====
section
/-! DEFINITION. Chapter 6, sections 6.4 and 6.5: the samples of a measurement (R105), the resistance (R109),
completion (R110, R111), classification (R112 to R117) and the clearance (R116). -/

namespace Sys2Proof.Machine

/-! ## Classification -/

/-- A counter one higher, saturating at 255 (R113). -/
def bump (n : Nat) : Nat := min (n + 1) 255

/-- The three counters after a classified value (R113). -/
def Monitor.counted (faultK warnK r : Nat) (m : Monitor) : Monitor :=
  if r < faultK then
    { m with belowFault := bump m.belowFault, belowWarn := bump m.belowWarn, aboveWarn := 0 }
  else if r < warnK then { m with belowFault := 0, belowWarn := bump m.belowWarn, aboveWarn := 0 }
  else { m with belowFault := 0, belowWarn := 0, aboveWarn := bump m.aboveWarn }

/-- The lower of a minimum and a value; none takes the value (R145). -/
def lowerMin (m : Option Nat) (r : Nat) : Option Nat :=
  match m with
  | some k => some (min k r)
  | none => some r

/-- A classified value reported to an OPEN session (R145). -/
def Session.addResult (r : Nat) : Session → Session
  | .opened rec t => .opened { rec with minIns := lowerMin rec.minIns r } t
  | x => x

/-- The entry into FAULT (R115): the latch, the withdrawal of the clearance, the report to the session unit,
and the report of the change to the share engine. -/
def State.enterIsoFault (s : State) : State :=
  (State.endSession .isoFault
    { ({ s with imon.insulation := .fault }.latch .isoFault) with imon.clearance := false }).recompute

/-- A change of the insulation state to GOOD, reported to the share engine (R114, R117). -/
def State.enterIsoGood (s : State) : State := State.recompute { s with imon.insulation := .good }

/-- The entry into WARNING: ISO_WARN is latched and the change reported (R114, R117). -/
def State.enterIsoWarning (s : State) : State :=
  ({ s with imon.insulation := .warning }.latch .isoWarn).recompute

/-- The state transition after the counters (R114, R115). -/
def State.insulationStep (s : State) : State :=
  match s.imon.insulation with
  | .unknown =>
    if s.confirm ≤ s.imon.belowFault then s.enterIsoFault
    else if 1 ≤ s.imon.aboveWarn then s.enterIsoGood
    else if s.confirm ≤ s.imon.belowWarn then s.enterIsoWarning
    else s
  | .good =>
    if s.confirm ≤ s.imon.belowFault then s.enterIsoFault
    else if s.confirm ≤ s.imon.belowWarn then s.enterIsoWarning
    else s
  | .warning =>
    if s.confirm ≤ s.imon.belowFault then s.enterIsoFault
    else if s.confirm ≤ s.imon.aboveWarn then s.enterIsoGood
    else s
  | .fault =>
    if s.confirm ≤ s.imon.aboveWarn ∧ s.slu.session.isIdle then s.enterIsoGood else s

/-- The clearance after a classified value, with the opening test at its change (R116, R138). -/
def State.giveClearance (r : Nat) (s : State) : State :=
  if s.slu.session.isPending ∧ s.mdu.cfg.faultK ≤ r ∧ s.imon.insulation ≠ .fault ∧ !s.imon.clearance then
    State.openingTest { s with imon.clearance := true }
  else s

/-- Whether results are classified in the mode (R112). -/
def Mode.classifies : Mode → Bool
  | .listening => true
  | .run => true
  | .powerHold => true
  | _ => false

/-- One classification: counters, report, transition, clearance (R117 steps 1 to 4). -/
def State.classify (r : Nat) (s : State) : State :=
  if s.mdu.mode.classifies then
    State.giveClearance r
      (State.insulationStep
        { s with
          imon := s.imon.counted s.mdu.cfg.faultK s.mdu.cfg.warnK r,
          slu.session := s.slu.session.addResult r })
  else s

/-- The restart of the interval by a peer's result (R99, R117 step 5). -/
def State.restartInterval (s : State) : State :=
  match s.imon.seq with
  | .waiting _ => s.enterWaiting
  | .holdoff _ => s.enterWaiting
  | _ => s

/-! ## The measurement -/

/-- A kept sample added to the sum of its phase (R105). -/
def PhaseSums.add (p : Phase) (code : Int) (t : PhaseSums) : PhaseSums :=
  match p with
  | .p1 => { t with s1 := t.s1 + code }
  | .p2 => { t with s2 := t.s2 + code }
  | .p3 => { t with s3 := t.s3 + code }
  | .p4 => { t with s4 := t.s4 + code }

/-- D_sum (R109 stage 1). -/
def PhaseSums.total (t : PhaseSums) : Int := t.s1 - t.s2 - t.s3 + t.s4

/-- The result of a measurement, kind and value, from D_sum and N kept samples a phase (R109). -/
def resistance (rm uinj rc kept : Nat) (dSum : Int) : ResultKind × Nat :=
  if dSum ≤ 0 then (.noResponse, 0)
  else
    let r := ((rm * uinj * (4 * kept) : Nat) : Int) / dSum - ((rc : Int) + rm)
    if r < 0 then (.valid, 0)
    else if 10000 < r then (.aboveRange, 10000)
    else (.valid, r.toNat)

/-- The result of the running measurement (R109). -/
def State.measured (s : State) : ResultKind × Nat :=
  resistance s.mdu.cfg.rm s.mdu.cfg.uinj s.mdu.cfg.rc (phaseSamples s.mdu.cfg.phaseCode - s.mdu.cfg.crop)
    s.imon.sums.total

/-- The second NO_RESPONSE: INJECTOR is latched and the sequencer becomes OFF (R111). -/
def State.injectorFails (s : State) : State := (s.latch .injector).sequencerOff

/-- A completed NO_RESPONSE (R110 steps 2 to 5). -/
def State.finishNoResponse (s : State) : State :=
  if 2 ≤ s.imon.noResponse + 1 then
    State.injectorFails
      ({ s with imon.noResponse := min (s.imon.noResponse + 1) 2 }.loadOwnResult .noResponse 0)
  else
    State.enterWaiting
      ({ s with imon.noResponse := s.imon.noResponse + 1 }.loadOwnResult .noResponse 0)

/-- A completed VALID or ABOVE_RANGE result: classified, the NO_RESPONSE count to 0, loaded, WAITING (R110). -/
def State.finishResult (kind : ResultKind) (value : Nat) (s : State) : State :=
  State.enterWaiting
    ({ s.classify value with imon.noResponse := 0 }.loadOwnResult kind value)

/-- Completion: ISO_SW opens, sampling stops, the result is computed and handed on (R105, R109, R110). -/
def State.completeMeasurement (s : State) : State :=
  match s.measured with
  | (.noResponse, _) =>
    State.finishNoResponse { s with imon.isoSw := .opened, mfe.insClock := none }
  | (kind, value) =>
    State.finishResult kind value { s with imon.isoSw := .opened, mfe.insClock := none }

/-- The phase after a phase, none after the fourth (R105). -/
def Phase.next : Phase → Option Phase
  | .p1 => some .p2
  | .p2 => some .p3
  | .p3 => some .p4
  | .p4 => none

/-- The phase's sample count after a delivered sample: the next sample, the next phase, or completion
(R105). -/
def State.advanceSample (p : Phase) (index : Nat) (s : State) : State :=
  if index < phaseSamples s.mdu.cfg.phaseCode then s.setSeq (.injecting p index)
  else
    match p.next with
    | some q => s.setSeq (.injecting q 0)
    | none => s.completeMeasurement

/-- An insulation sample in INJECTING (R105, R106): cropped, aborting, or kept. -/
def State.takeSample (p : Phase) (index : Nat) (code : Int) (s : State) : State :=
  if index ≤ s.mdu.cfg.crop then s.advanceSample p index
  else if saturated code then s.abortMeasurement
  else State.advanceSample p index { s with imon.sums := s.imon.sums.add p code }

end Sys2Proof.Machine
end

