-- ==== Sys2Proof/Machine/Contract.lean ====
section
/-! DEFINITION. Chapter 3: the peer view (R36 to R38), the contract record (R43 to R49), HALT (R50, R51),
the local clock (R52, R53), and the session unit's answers to contract, loss and HALT events (R137, R139,
R141). -/

namespace Sys2Proof.Machine

/-! ## Peer view -/

/-- The entry of a station id. -/
def entryOf (view : List Entry) (id : Nat) : Option Entry := view.find? fun e => e.id == id

/-- An entry put into the view in the place of its id (R36). -/
def putEntry (e : Entry) : List Entry → List Entry
  | [] => [e]
  | f :: rest =>
    if e.id < f.id then e :: f :: rest
    else if e.id = f.id then e :: rest
    else f :: putEntry e rest

/-- The role of an arrival by its kind (R36). -/
def Kind.role : Kind → Role
  | .beacon => .module
  | .injectIntent => .module
  | .isoResult => .module
  | .logRecord => .module
  | .contract => .inlet
  | .halt => .inlet
  | .logRead => .reader
  | .flagClear => .reader

/-- The module part of an entry after an arrival (R36, R37): a BEACON sets it, another kind from a present
entry of the same role leaves it, and every other case has none. -/
def partAfter (before : Option Entry) (k : Kind) (payload : List Byte) : Option ModulePart :=
  match k, before with
  | .beacon, _ => some (beaconPart payload)
  | _, some e => if e.role = k.role then e.part else none
  | _, none => none

/-- Whether a view shows a station as INLET. -/
def showsInlet (view : List Entry) (id : Nat) : Bool := (entryOf view id).map Entry.role == some .inlet

/-- Whether an inlet station's entry is removed, or changes its role away from INLET, between two views
(R48). -/
def inletLost (before after : List Entry) (id : Nat) : Bool := showsInlet before id && !showsInlet after id

/-- A conflict that ends between two views, because the source's or the contender's entry is removed or is
no INLET any more (R48). -/
def Contract.resolve (before after : List Entry) (r : Contract) : Contract :=
  match r.status with
  | .conflicted x =>
    if inletLost before after r.source || inletLost before after x then { r with status := .resolving } else r
  | _ => r

/-- A change of the view, which may end a conflict (R48). -/
def State.setView (view : List Entry) (s : State) : State :=
  { s with pvt.view := view, pvt.record := s.pvt.record.map (Contract.resolve s.pvt.view view) }

/-- The sender's entry settled (R36, R37). -/
def State.settleEntry (rx : Received) (s : State) : State :=
  s.setView
    (putEntry
      { id := rx.source, role := rx.kind.role, age := 0,
        part := partAfter (entryOf s.pvt.view rx.source) rx.kind rx.payload }
      s.pvt.view)

/-- An entry one period older; at age 8 it is removed (R38). -/
def Entry.older (e : Entry) : Option Entry := if 8 ≤ e.age + 1 then none else some { e with age := e.age + 1 }

/-- The view aged by one own beacon period (R38). -/
def agedView (view : List Entry) : List Entry := view.filterMap Entry.older

/-- The ageing of the view, with the end of a conflict that a removal brings (R38, R48). -/
def State.ageView (s : State) : State := s.setView (agedView s.pvt.view)

/-! ## Telegram heard -/

/-- Whether a kind restarts the dormant timer (R172). -/
def Kind.wakeful : Kind → Bool
  | .contract => true
  | .halt => true
  | .logRead => true
  | .flagClear => true
  | .logRecord => true
  | .beacon => false
  | .injectIntent => false
  | .isoResult => false

/-- The dormant timeout, microseconds. -/
def State.dormantTime (s : State) : Nat := s.mdu.cfg.dormantTimeout * 1000000

/-- A telegram heard report at the mode unit: in RUN the listed kinds restart the dormant timer (R40, R172). -/
def State.heard (k : Kind) (s : State) : State :=
  if k.wakeful ∧ s.mdu.mode = .run then { s with mdu.dormantTimer := .running s.dormantTime } else s

/-! ## The session unit at the record's events -/

/-- A contract event of an accepted CONTRACT at the session unit (R137, R139, R141). -/
def State.sessionContract (plugged : Bool) (id : Nat) (s : State) : State :=
  if s.mdu.mode.handlesSessions then
    match s.slu.session with
    | .idle => s.offerSession plugged id
    | .pending own _ =>
      if !plugged then s.returnToIdle
      else if id ≠ own then s.returnToIdle.offerSession plugged id
      else s
    | .opened r _ =>
      if !plugged then s.endSession .unplugged
      else if id ≠ r.id then s.endSession .sessionChanged
      else s
    | .ended .. => s
  else s

/-- An event that returns a PENDING session to IDLE and ends an OPEN one for a reason (R139, R141). -/
def State.sessionStops (reason : EndReason) (s : State) : State :=
  if s.mdu.mode.handlesSessions then
    match s.slu.session with
    | .pending .. => s.returnToIdle
    | .opened .. => s.endSession reason
    | _ => s
  else s

/-! ## The clock -/

/-- The local time in seconds (R53). -/
def Clock.total (c : Clock) : Int := (c.day : Int) * 86400 + c.second

/-- The clock set to a time (R52). -/
def clockSet (day second : Nat) : Clock := { day := day, second := second, valid := true, toAdvance := secondTime }

/-- Whether a set is a time jump (R53). -/
def Clock.jumps (c : Clock) (day second : Nat) : Bool :=
  !c.valid || decide (2 < ((clockSet day second).total - c.total).natAbs)

/-- The time of an accepted CONTRACT offered to the clock (R52, R53). -/
def State.offerTime (day second : Nat) (s : State) : State :=
  if second ≤ 86399 then
    if s.clock.jumps day second then State.meterJump { s with clock := clockSet day second }
    else { s with clock := clockSet day second }
  else s

/-- The clock one second later (R52). -/
def Clock.advance (c : Clock) : Clock :=
  if c.second < 86399 then { c with second := c.second + 1, toAdvance := secondTime }
  else { c with second := 0, day := if c.day < 65535 then c.day + 1 else 0, toAdvance := secondTime }

/-! ## The record -/

/-- The halted session id after an accepted CONTRACT (R50). -/
def haltedAfter (halted : Nat) (r : Contract) : Nat :=
  if r.session ≠ halted ∨ !r.plugged then 0 else halted

/-- A CONTRACT accepted (R43 steps 1 to 6). -/
def State.acceptContract (source : Nat) (p : List Byte) (s : State) : State :=
  State.sessionContract (contractOf source p).plugged (contractOf source p).session
    (State.recompute
      { (State.offerTime (contractDay p) (contractSecond p)
          { s with pvt.record := some (contractOf source p), pvt.lossTimer := some lossTime }) with
        pvt.halted := haltedAfter s.pvt.halted (contractOf source p) })

/-- The loss timer restarted (R49). -/
def State.restartLoss (s : State) : State := { s with pvt.lossTimer := some lossTime }

/-- A conflict (R47): the contender is kept, the loss timer restarted, CONTRACT_CONFLICT latched, and a
contract event reported to the share engine. -/
def State.enterConflict (r : Contract) (contender : Nat) (s : State) : State :=
  State.recompute
    (State.latch .contractConflict
      { s with pvt.record := some { r with status := .conflicted contender }, pvt.lossTimer := some lossTime })

/-- A CONTRACT arrival at the record (R43), the sender's entry having been settled. -/
def State.contractArrives (source : Nat) (p : List Byte) (s : State) : State :=
  match s.pvt.record with
  | none => s.acceptContract source p
  | some r =>
    match r.status with
    | .held =>
      if source = r.source then
        if rd8 p 0 = r.seq then s.restartLoss else s.acceptContract source p
      else if showsInlet s.pvt.view r.source then s.enterConflict r source
      else s.acceptContract source p
    | .conflicted _ => s.restartLoss
    | .resolving => s.acceptContract source p

/-- The record lost (R49), reported to the share engine and the session unit. -/
def State.loseContract (s : State) : State :=
  State.sessionStops .contractLost (State.recompute { s with pvt.record := none, pvt.lossTimer := none })

/-- A HALT arrival (R51): acted on when it comes from the record's source. -/
def State.haltArrives (source : Nat) (s : State) : State :=
  match s.pvt.record with
  | some r =>
    if source = r.source then
      State.sessionStops .halted
        { s with pvt.halted := if r.session ≠ 0 then r.session else s.pvt.halted }
    else s
  | none => s

end Sys2Proof.Machine
end

