-- ==== Sys2Proof/Machine/Line.lean ====
section
/-! DEFINITION. Chapter 1, the metering pair: crossings (R3), cycles (R4), the line state (R6 to R9), the
RMS values (R10, R11), and the reports of line state changes and line cycles (R5, R9, R142). -/

namespace Sys2Proof.Machine

/-- Urms of some sums, dV (R10). -/
def urmsOf (sumV2 n : Nat) : Nat := isqrt (sumV2 * 256 / (10000 * n))

/-- Irms of some sums, dA (R10). -/
def irmsOf (sumI2 n : Nat) : Nat := isqrt (sumI2 / (10000 * n))

/-- The period verdict of a cycle (R4). -/
def periodInRange (period : Nat) : Bool := 15385 ≤ period && period ≤ 22222

/-- The Urms verdict of a cycle (R4). -/
def urmsInRange (urms : Nat) : Bool := 1800 ≤ urms && urms ≤ 2650

/-- The time of a sample by its index (R2). -/
def sampleTime (k : Nat) : Nat := samplePeriod * k

/-- The crossing time a sample of code `v` carries after the previous sample, `none` when it carries no
positive-going crossing (R3). -/
def FrontEnd.crossing (m : FrontEnd) (v : Int) : Option Nat :=
  match m.vPrev with
  | some w =>
    if 0 ≤ v ∧ w < 0 then some (sampleTime m.count + ((samplePeriod : Int) * (-w) / (v - w)).toNat) else none
  | none => none

/-- Whether a crossing at time `t` is accepted (R3). -/
def FrontEnd.accepts (m : FrontEnd) (t : Nat) : Bool :=
  match m.tAcc with
  | some a => decide (a + crossingGuard ≤ t)
  | none => true

/-- A sample added to the running sums (R10, R11). -/
def FrontEnd.addSample (v i : Int) (m : FrontEnd) : FrontEnd :=
  { m with sumV2 := m.sumV2 + v.natAbs ^ 2, sumI2 := m.sumI2 + i.natAbs ^ 2, n := m.n + 1 }

/-- The running sums emptied. -/
def FrontEnd.clearRms (m : FrontEnd) : FrontEnd := { m with sumV2 := 0, sumI2 := 0, n := 0 }

/-- Urms and Irms of the running cycle published (R10). -/
def FrontEnd.publish (m : FrontEnd) : FrontEnd :=
  { m with urms := urmsOf m.sumV2 m.n, irms := irmsOf m.sumI2 m.n }

/-- The window's values published, with n = 400, and the next window begun (R11). -/
def FrontEnd.publishWindow (m : FrontEnd) : FrontEnd :=
  FrontEnd.clearRms { m with urms := urmsOf m.sumV2 lossLimit, irms := irmsOf m.sumI2 lossLimit }

/-- A line state with all three counters at 0. -/
def FrontEnd.enterLine (l : LineState) (m : FrontEnd) : FrontEnd :=
  { m with line := l, settle := 0, badPeriod := 0, badUrms := 0 }

/-- A bad count after one verdict (R7). -/
def badCount (good : Bool) (n : Nat) : Nat := if good then 0 else n + 1

/-- The line state and its counters after a completed cycle with its two verdicts (R6, R7, R8). -/
def FrontEnd.judge (periodOk urmsOk : Bool) (m : FrontEnd) : FrontEnd :=
  match m.line with
  | .settling =>
    if periodOk && urmsOk then
      if 8 ≤ m.settle + 1 then m.enterLine .good else { m with settle := m.settle + 1 }
    else { m with settle := 0 }
  | .good =>
    if 3 ≤ badCount periodOk m.badPeriod ∨ 3 ≤ badCount urmsOk m.badUrms then m.enterLine .fault
    else { m with badPeriod := badCount periodOk m.badPeriod, badUrms := badCount urmsOk m.badUrms }
  | .fault =>
    if periodOk then { m.enterLine .settling with settle := if urmsOk then 1 else 0 } else m
  | .absent => m

/-! ## Reports -/

/-- In ABSENT the overdraw timer stops and the overdraw condition ends (R89, R92). -/
def State.overdrawAbsent (s : State) : State :=
  if s.mfe.line = .absent then { s with she.overdrawTimer := none, she.overdraw := false } else s

/-- A change of the line state at the share engine: leaving GOOD zeroes d and recomputes (R74, R81); ABSENT
stops the overdraw timer and ends the overdraw condition (R89, R92). -/
def State.shareLine (before : LineState) (s : State) : State :=
  if before = .good then (s.overdrawAbsent.setDemand 0).recompute else s.overdrawAbsent

/-- The line-loss timer after a change of the line state (R142). -/
def Session.lineChanged (before after : LineState) : Session → Session
  | .opened r t =>
    if before = .good then .opened r (some lineLossTime) else if after = .good then .opened r none else .opened r t
  | x => x

/-- A change of the line state reported to the share engine and the session unit (R9, R142, R138); nothing
when the state is the same. -/
def State.lineReport (before : LineState) (s : State) : State :=
  if s.mfe.line = before then s
  else
    State.openingTest
      { s.shareLine before with slu.session := s.slu.session.lineChanged before s.mfe.line }

/-- LINE latched when the line state has become FAULT (R7). -/
def State.lineLatch (before : LineState) (s : State) : State :=
  if before = .good ∧ s.mfe.line = .fault then s.latch .line else s

/-! ## One sample -/

/-- The running sums begun anew with the crossing's own sample, and the crossing kept (R3, R10). -/
def FrontEnd.beginCycle (t : Nat) (v i : Int) (m : FrontEnd) : FrontEnd :=
  FrontEnd.addSample v i { m.clearRms with tAcc := some t, loss := 0 }

/-- The first accepted crossing of a run: SETTLING, the partial window discarded (R6, R11). -/
def State.firstCrossing (t : Nat) (v i : Int) (s : State) : State :=
  State.lineReport s.mfe.line { s with mfe := (s.mfe.beginCycle t v i).enterLine .settling }

/-- The front end after an accepted crossing that closes the cycle begun at `old`: the values published, the
cycle judged, the new cycle begun (R10, R6 to R8, R3). -/
def FrontEnd.closed (old t : Nat) (v i : Int) (m : FrontEnd) : FrontEnd :=
  (m.publish.judge (periodInRange (t - old)) (urmsInRange m.publish.urms)).beginCycle t v i

/-- An accepted crossing that closes a cycle: the line state's change is reported, LINE latched, and the line
cycle event goes to the overdraw check (R5 to R8, R89). -/
def State.closeCycle (old t : Nat) (v i : Int) (s : State) : State :=
  State.overdrawCheck (irmsOf s.mfe.sumI2 s.mfe.n)
    (State.lineLatch s.mfe.line (State.lineReport s.mfe.line { s with mfe := s.mfe.closed old t v i }))

/-- 400 samples without an accepted crossing: ABSENT, counters 0, t_acc forgotten, the sums discarded (R9). -/
def State.loseLine (s : State) : State :=
  State.lineReport s.mfe.line
    { s with mfe := { (s.mfe.enterLine .absent).clearRms with tAcc := none, loss := 0 } }

/-- A sample without an accepted crossing: it joins the window or the cycle, and completes the window or the
loss count (R9, R11). -/
def State.plainSample (v i : Int) (s : State) : State :=
  if s.mfe.line = .absent then
    if lossLimit ≤ s.mfe.n + 1 then { s with mfe := (s.mfe.addSample v i).publishWindow }
    else { s with mfe := s.mfe.addSample v i }
  else if lossLimit ≤ s.mfe.loss + 1 then s.loseLine
  else { s with mfe := { s.mfe.addSample v i with loss := s.mfe.loss + 1 } }

/-- Line timing and RMS at one sample (R2, R3). -/
def State.lineSample (v i : Int) (s : State) : State :=
  match s.mfe.crossing v with
  | some t =>
    if s.mfe.accepts t then
      match s.mfe.tAcc with
      | some old => s.closeCycle old t v i
      | none => s.firstCrossing t v i
    else s.plainSample v i
  | none => s.plainSample v i

/-- The sample kept for the next crossing test (R2). -/
def State.keepSample (v : Int) (s : State) : State :=
  { s with mfe.vPrev := some v, mfe.count := s.mfe.count + 1 }

end Sys2Proof.Machine
end

