-- ==== Sys2Proof/Machine/Thermal.lean ====
section
/-! DEFINITION. Chapter 4: the thermal unit's work at a scan complete (R55 to R67). -/

namespace Sys2Proof.Machine

/-- The filtered values of the valid cell sensors (R55). -/
def cellTemps (t : Sensors (Option Int)) : List Int := [t.t1, t.t2, t.t3, t.t4].filterMap id

/-- The lowest of some temperatures, none of none (R55). -/
def lowestOf : List Int → Option Int
  | [] => none
  | x :: rest => some (rest.foldl min x)

/-- The highest of some temperatures, none of none (R55). -/
def highestOf : List Int → Option Int
  | [] => none
  | x :: rest => some (rest.foldl max x)

/-- Step 1 of R62: the valid cell count, Tmin and Tmax (R55). -/
def State.cellStep (s : State) : State :=
  { s with
    thu.validCount := (cellTemps s.mfe.record.temps).length,
    thu.tmin := lowestOf (cellTemps s.mfe.record.temps),
    thu.tmax := highestOf (cellTemps s.mfe.record.temps) }

/-- A thermal fault event at the session unit, which handles it outside CONFIG_HOLD (R141, R136). -/
def State.thermalFault (s : State) : State :=
  if s.mdu.mode.handlesSessions then s.endSession .thermalFault else s

/-- Step 2 of R62: the sensor condition; at its beginning THERM_SENSOR is latched and a thermal fault event
goes to the session unit (R56). -/
def State.sensorStep (s : State) : State :=
  if s.thu.validCount < 2 then
    if s.thu.sensorFault then s
    else (State.latch .thermSensor { s with thu.sensorFault := true }).thermalFault
  else { s with thu.sensorFault := false }

/-- Whether the mat sensor is invalid or too hot (R63). -/
def matHot (th : Option Int) (thMax : Int) : Bool :=
  match th with
  | some t => decide (thMax < t)
  | none => true

/-- Whether a valid mat sensor ends the lockout (R64). -/
def matCool (th : Option Int) (thMax : Int) : Bool :=
  match th with
  | some t => decide (t ≤ thMax - 100)
  | none => false

/-- The heater state outside lockout (R65). -/
def heaterAfter (h : Heater) (sensorFault : Bool) (tmin : Option Int) (tOn tOff : Int) : Heater :=
  match sensorFault, h, tmin with
  | false, .off, some t => if t < tOn then .on else .off
  | false, .on, some t => if tOff ≤ t then .off else .on
  | _, .lockout, _ => .lockout
  | _, _, _ => .off

/-- A change of the heater state, with the duty in force formed again (R68, R70). -/
def State.setHeater (h : Heater) (s : State) : State := State.applyDuty { s with thu.heater := h }

/-- Step 3 of R62: the heater state by R63, R64 and R65, tried in that order. -/
def State.heaterStep (s : State) : State :=
  if matHot s.mfe.record.temps.th s.mdu.cfg.thMax then
    if s.thu.heater = .lockout then s else (s.setHeater .lockout).latch .heaterHot
  else if s.thu.heater = .lockout then
    if matCool s.mfe.record.temps.th s.mdu.cfg.thMax then s.setHeater .off else s
  else
    s.setHeater (heaterAfter s.thu.heater s.thu.sensorFault s.thu.tmin s.mdu.cfg.tOn s.mdu.cfg.tOff)

/-- The curve between a point and the points that follow it, at a temperature not below the point (R58). -/
def curveFromPoint (t : Int) : Int × Nat → List (Int × Nat) → Nat
  | p, [] => p.2
  | p, q :: rest =>
    if t < q.1 then
      (((p.2 : Int) * (q.1 - p.1) + ((q.2 : Int) - p.2) * (t - p.1)) / (q.1 - p.1)).toNat
    else curveFromPoint t q rest

/-- The derating curve at a temperature (R58). -/
def curveAt (points : List (Int × Nat)) (t : Int) : Nat :=
  match points with
  | [] => 0
  | p :: rest => if t < p.1 then p.2 else curveFromPoint t p rest

/-- cap_T (R59, R56). -/
def capOf (sensorFault : Bool) (points : List (Int × Nat)) (tmin tmax : Option Int) : Nat :=
  match sensorFault, tmin, tmax with
  | false, some a, some b => min (curveAt points a) (curveAt points b)
  | _, _, _ => 0

/-- The taper cap (R60). -/
def taperOf (umax band imaxDc ustr : Nat) : Nat :=
  if umax ≤ ustr then 0 else if ustr + band ≤ umax then imaxDc else imaxDc * (umax - ustr) / band

/-- cap_T as the scan gives it. -/
def State.capNow (s : State) : Nat := capOf s.thu.sensorFault s.mdu.cfg.curve s.thu.tmin s.thu.tmax

/-- The taper cap as the scan gives it. -/
def State.taperNow (s : State) : Nat := taperOf s.mdu.cfg.umax s.mdu.cfg.band s.mdu.cfg.imaxDc s.ustr

/-- Step 4 of R62: the caps (R59 to R61); Idc_cap is 0 while the sensor condition holds (R56). -/
def State.capStep (s : State) : State :=
  { s with
    thu.capT := s.capNow, thu.taper := s.taperNow, thu.idcCap := min s.capNow (min s.taperNow s.mdu.cfg.imaxDc) }

/-- duty_req in HEAT_ON at a Tmin (R66). -/
def dutyOf (tmin tOn tOff : Int) : Nat :=
  if tmin ≤ tOn then 16 else ceilDiv (16 * (tOff - tmin).toNat) (tOff - tOn).toNat

/-- duty_req (R66). -/
def State.dutyRequest (s : State) : Nat :=
  if s.mdu.mode = .run ∧ s.slu.session.isOpen ∧ s.thu.heater = .on then
    match s.thu.tmin with
    | some t => dutyOf t s.mdu.cfg.tOn s.mdu.cfg.tOff
    | none => 0
  else 0

/-- Ph_full (R67). -/
def fullPower (ustr rh : Nat) : Nat := ustr * ustr / (10 * rh)

/-- Steps 5 and 6 of R62: duty_req, Ph_full, Ph_req (R66, R67). -/
def State.powerStep (s : State) : State :=
  { s with
    thu.dutyReq := s.dutyRequest, thu.phFull := fullPower s.ustr s.mdu.cfg.rh,
    thu.phReq := s.dutyRequest * fullPower s.ustr s.mdu.cfg.rh / 16 }

/-- In CONFIG_HOLD: the heater state, the caps, the duty request and the powers held at their zero values,
and HTR open (R54). -/
def State.thermalHold (s : State) : State :=
  { s with
    thu.heater := .off, thu.capT := 0, thu.taper := 0, thu.idcCap := 0, thu.dutyReq := 0, thu.phFull := 0,
    thu.phReq := 0, thu.htr := false }

/-- A scan complete at the thermal unit and, by its thermal update, at the share engine (R62, R54). -/
def State.thermalScan (s : State) : State :=
  if s.mdu.mode = .configHold then s.cellStep.sensorStep.thermalHold.thermalUpdate
  else s.cellStep.sensorStep.heaterStep.capStep.powerStep.thermalUpdate

end Sys2Proof.Machine
end

