-- ==== Sys2Proof/Machine/Modes.lean ====
section
/-! DEFINITION. Chapter 10: the station modes, the end of START (R166), LISTENING to RUN (R170), POWER_HOLD
(R171), DORMANT and wake (R173, R174), the own beacon period (R169), and the resets (R176). -/

namespace Sys2Proof.Machine

/-! ## Starts of the blocks -/

/-- The own beacon period (R169): the image's, 128 ms in CONFIG_HOLD. -/
def State.beaconPeriod (s : State) : Nat :=
  match s.mdu.mode with
  | .configHold => 128000
  | _ => 64000 * 2 ^ s.mdu.cfg.beaconCode

/-- The converters and the thermal unit start: the time base at 0, the first scan begun, the first HTR step
begun (R1, R12, R54, R69). -/
def State.startConverters (s : State) : State :=
  { s with
    mfe := { FrontEnd.start with scanning := true, scanTimer := some scanPeriod },
    thu := { Thermal.start with stepTimer := some stepTime } }

/-- The peer bus interface starts; the random value is kept (R21, R29). -/
def State.startBus (s : State) : State := { s with pbi := PeerBus.start s.pbi.random }

/-- The beacon period timer starts (R169). -/
def State.startBeacons (s : State) : State := { s with mdu.beaconTimer := some s.beaconPeriod }

/-! ## Reports of a change of mode -/

/-- A change of mode at the insulation monitor (R96). -/
def State.monitorMode (s : State) : State := if s.mdu.mode = .run then s.leaveOff else s.sequencerOff

/-- A change of mode at the share engine: outside RUN the demand, the hold and the overdraw timer end, and
the claim is recomputed (R74, R89, R91, R81). -/
def State.shareMode (s : State) : State := if s.mdu.mode = .run then s.recompute else s.shareLeavesRun

/-- A change of mode reported to the share engine, the thermal unit, the insulation monitor and the session
unit, in that order (R165, log 17). -/
def State.modeReport (s : State) : State := s.shareMode.applyDuty.monitorMode.openingTest

/-! ## Power hold -/

/-- PWR_FAIL at the session unit (R152). -/
def State.sessionPowerFail (s : State) : State :=
  match s.slu.session with
  | .pending .. => s.returnToIdle
  | .opened .. => s.endSession .powerFail
  | _ => s

/-- PWR_FAIL at the thermal unit: HTR opens at once and the duty in force is 0 (R71). -/
def State.thermalShutdown (s : State) : State := { s with thu.inForce := 0, thu.htr := false }

/-- A PWR_FAIL assertion taken in LISTENING or RUN (R171, R93, R71, R96, R152). -/
def State.takePowerFail (s : State) : State :=
  State.sessionPowerFail
    { s with mdu.mode := .powerHold, mdu.dormantTimer := .stopped }.shareShutdown.thermalShutdown.sequencerOff

/-- Held PWR_FAIL examined as the mode becomes LISTENING (R171). -/
def State.examineHeld (s : State) : State :=
  if s.mdu.heldPwrFail ∧ s.pins.pwrFail then { s with mdu.heldPwrFail := false }.takePowerFail
  else { s with mdu.heldPwrFail := false }

/-! ## START, LISTENING, RUN -/

/-- The mode becomes LISTENING: the listening count is 0, the converters, the peer bus interface and the
beacon timer start, ALERT follows the mask, the change is reported, and held PWR_FAIL is examined (R166,
R170, R174, R158, R171). -/
def State.enterListening (s : State) : State :=
  ({ s with mdu.mode := .listening, mdu.settling := none, mdu.listening := 0
   }.startConverters.startBus.startBeacons.updateAlert.modeReport).examineHeld

/-- START ends with a passed check: the configuration comes into force and Qraw is formed (R166, R118). -/
def State.endStartPassed (cfg : ImageConfig) (s : State) : State :=
  { s with mdu.cfg := cfg, emt.qraw := quantumOf cfg.gain }.enterListening

/-- START ends with a failed check: CONFIG_HOLD, held PWR_FAIL dropped (R166, R168, R171). -/
def State.endStartFailed (s : State) : State :=
  { s with mdu.mode := .configHold, mdu.heldPwrFail := false
   }.startConverters.startBus.startBeacons.updateAlert.modeReport

/-- The end of START at the later of the image check and the start scan (R166). -/
def State.startTest (s : State) : State :=
  match s.mdu.mode, s.mdu.image, s.mdu.scan with
  | .start, .passed cfg, .done => s.endStartPassed cfg
  | .start, .failed, .done => s.endStartFailed
  | _, _, _ => s

/-- A failed image check: CONFIG is latched in START, where no neighbour handles events and ALERT stays
released (R167, R156, R158). -/
def State.failImage (s : State) : State :=
  { s with mdu.image := .failed, flu.flags := FlagSet.insert s.flu.flags .config }

/-- The start scan moves on from a slot with what it found there (R148). -/
def State.scanSlot (slot : Fin 16) (found : Option Nat) (s : State) : State :=
  { s with
    slu.table := s.slu.table.set slot.val found,
    mdu.scan := if slot.val = 15 then .done else .reading (slot + 1) markerTime }

/-- The mode becomes RUN (R170): the dormant timer starts (R172), and the change is reported. -/
def State.enterRun (s : State) : State :=
  { s with mdu.mode := .run, mdu.dormantTimer := .running s.dormantTime }.modeReport

/-! ## The own beacon period -/

/-- Ageing and claim computation at an own beacon period, in either order (R38, R80). -/
def State.ageAndClaim (ageFirst : Bool) (s : State) : State :=
  if ageFirst then s.ageView.periodClaim s.ageView.pvt.view else (s.periodClaim s.pvt.view).ageView

/-- The listening count at an own beacon period, and the change to RUN at the third (R170). -/
def State.listenOn (s : State) : State :=
  if s.mdu.mode = .listening then
    if 3 ≤ s.mdu.listening + 1 then { s with mdu.listening := s.mdu.listening + 1 }.enterRun
    else { s with mdu.listening := s.mdu.listening + 1 }
  else s

/-- An own beacon period (R169): ageing and claim, the beacon request, the listening count. -/
def State.beaconPeriodFires (ageFirst : Bool) (s : State) : State :=
  ({ s with mdu.beaconTimer := some s.beaconPeriod }.ageAndClaim ageFirst).requestBeacon.listenOn

/-! ## Dormant -/

/-- The conditions of an entry into DORMANT (R173). -/
def State.dormantReady (s : State) : Bool :=
  s.mdu.mode == .run && s.mdu.dormantTimer == .expired && s.slu.session.isIdle && !s.pins.plug &&
  s.slu.buffer.isNone &&
  (match s.imon.seq with
   | .off => true
   | .waiting _ => true
   | _ => false) &&
  (s.mdu.cfg.wakeBus || s.mdu.cfg.wakePlug)

/-- The insulation monitor at the entry into DORMANT (R95): OFF, the timers stopped, UNKNOWN, the counters 0,
no clearance; the intent sequence and the NO_RESPONSE count are kept. -/
def Monitor.dormant (m : Monitor) : Monitor :=
  { m with
    seq := .off, timerFresh := false, peerIntent := none, belowFault := 0, belowWarn := 0, aboveWarn := 0, insulation := .unknown,
    clearance := false, injecting := false, isoSw := .opened }

/-- The entry into DORMANT at every block (R173). -/
def State.enterDormant (s : State) : State :=
  { s with
    mdu.mode := .dormant, mdu.settling := none, mdu.beaconTimer := none, mdu.dormantTimer := .stopped,
    mfe := FrontEnd.start, pbi := PeerBus.start s.pbi.random, pvt := PeerView.start, thu := Thermal.start,
    she := Share.start, imon := s.imon.dormant }

/-- The entry test at the end of a step: DORMANT when the conditions hold after it and did not hold before
it (R173, log 12). -/
def State.dormantTest (before : State) (s : State) : State :=
  if s.dormantReady ∧ !before.dormantReady then s.enterDormant else s

/-- A wake event: settling begins (R174). -/
def State.wake (s : State) : State := { s with mdu.settling := some settleTime }

/-- Whether the station is DORMANT, asleep. -/
def State.asleep (s : State) : Bool := s.mdu.mode == .dormant && s.mdu.settling.isNone

/-! ## Resets -/

/-- Power-on reset (R176). -/
def State.powerOn (station phase : Nat) (s : State) : State :=
  State.atStart station phase s.pins s.store s.freeIndex s.pending

/-- RSTn: as a power-on reset, but for the local clock, which runs on (R176). -/
def State.externalReset (station phase : Nat) (s : State) : State :=
  { s.powerOn station phase with clock := s.clock }

end Sys2Proof.Machine
end

