-- ==== Sys2Proof/Machine/Bus.lean ====
section
/-! DEFINITION. Meanings of the peer bus interface's commands: BUS_IDLE, BUS_ACTIVITY, ATTEMPT_START,
COLLISION, ATTEMPT_SUCCESS, HOLDOFF_RUNS_OUT, TELEGRAM_DISCARDED (R19 to R34). -/

namespace Sys2Proof.Machine

/-! ## Idle and busy -/

/-- The bus becomes idle: the quiet time is 80 µs, a take-up in progress is truncated (R32), and a holdoff
with nothing left runs out (R30). -/
def PeerBus.idles (p : PeerBus) : PeerBus :=
  { p with
    quiet := idleTime, foreign := false, receiving := false,
    holdoff := if p.holdoff = some 0 then none else p.holdoff }

/-- BUS_IDLE (R20): no attempt of the own station keeps the bus busy, and no level has come at this very instant. -/
def execBusIdle (s : State) : Host.Outcome State Fault Refusal :=
  .next (if s.runs ∧ s.pbi.attempt = none ∧ 0 < s.pbi.quiet then { s with pbi := s.pbi.idles } else s)

/-- A dominant level of another station: the quiet time restarts; on an idle bus without an own attempt the
receiver takes up a telegram, and a running holdoff pauses (R20, R30, R32). -/
def State.hearLevel (s : State) : State :=
  if s.busIdle ∧ s.pbi.attempt = none then
    { s with pbi.quiet := 0, pbi.foreign := true, pbi.receiving := true }
  else { s with pbi.quiet := 0 }

/-- BUS_ACTIVITY (R20, R30, R32). -/
def execBusActivity (s : State) : Host.Outcome State Fault Refusal :=
  .next (if s.runs then s.hearLevel else s)

/-- HOLDOFF_RUNS_OUT (R30): a holdoff runs, and so runs out, only while the bus is idle. -/
def execHoldoffRunsOut (s : State) : Host.Outcome State Fault Refusal :=
  .next (if s.runs ∧ s.busIdle then { s with pbi.holdoff := none } else s)

/-! ## Attempts -/

/-- The telegram of a slot, fixed at the start of the attempt; a beacon is assembled then (R26, R23). -/
def State.slotTelegram (k : SlotKind) (s : State) : List Byte :=
  match k with
  | .intent => frame s.mdu.station .injectIntent ((s.pbi.intent.map TxSlot.payload).getD [])
  | .result => frame s.mdu.station .isoResult ((s.pbi.result.map TxSlot.payload).getD [])
  | .beacon => frame s.mdu.station .beacon s.beaconPayload
  | .logReply => frame s.mdu.station .logRecord ((s.pbi.logReply.map TxSlot.payload).getD [])

/-- An attempt of a slot begins: the bus is busy, and the receiver takes the own telegram up (R26, R32). -/
def State.beginAttempt (k : SlotKind) (s : State) : State :=
  { s with
    pbi.quiet := 0, pbi.receiving := true,
    pbi.attempt := some
      { slot := k, telegram := s.slotTelegram k, claim := s.she.claim, left := wireTime (s.slotTelegram k) } }

/-- Whether an attempt may start, the occupied slot apart (R26). -/
def State.mayAttempt (s : State) : Bool :=
  s.runs && s.pbi.attempt.isNone && s.busIdle && s.pbi.holdoff.isNone

/-- ATTEMPT_START (R26, R22). -/
def execAttemptStart (s : State) : Host.Outcome State Fault Refusal :=
  .next
    (match s.mayAttempt, s.pbi.choice with
     | true, some k => s.beginAttempt k
     | _, _ => s)

/-- The interface after a collision in an attempt of a slot: the count is raised, the next random value sets
the holdoff, the eighth failure drops the telegram, and what was held during the attempt settles; the
other telegram goes on, and the receiver with it (R27, R30, R31, R23, R24). -/
def PeerBus.collide (k : SlotKind) (p : PeerBus) : PeerBus :=
  let q := p.failSlot k
  { (if retryLimit ≤ q.failures k then q.emptySlot k else q).settleSlot k with
    attempt := none, random := nextRandom p.random, quiet := 0, foreign := true,
    holdoff := some (nextRandom p.random / 4096 * holdoffUnit) }

/-- The report of a drop to the block that loaded the slot (R31): only a dropped intent has a consequence. -/
def State.reportDrop (k : SlotKind) (dropped : Bool) (s : State) : State :=
  match k, dropped with
  | .intent, true => s.intentDropped
  | _, _ => s

/-- COLLISION (R27, R30, R31). -/
def execCollision (s : State) : Host.Outcome State Fault Refusal :=
  .next
    (match s.pbi.attempt with
     | some a =>
       State.dormantTest s
         (State.reportDrop a.slot (retryLimit ≤ (s.pbi.failSlot a.slot).failures a.slot)
           { s with pbi := s.pbi.collide a.slot })
     | none => s)

/-- The report of a success to the block that loaded the slot (R28). -/
def State.reportSuccess (a : Attempt) (s : State) : State :=
  match a.slot with
  | .intent => s.intentSent
  | .beacon => s.beaconSent a.claim
  | .result => s
  | .logReply => s

/-- ATTEMPT_SUCCESS (R28, R34): the slot is emptied, what was held settles, the readback is not handed on,
and the success is reported. -/
def execAttemptSuccess (s : State) : Host.Outcome State Fault Refusal :=
  .next
    (match s.pbi.attempt with
     | some a =>
       State.reportSuccess a
         (State.telegramEnds
           { s with pbi := { (s.pbi.emptySlot a.slot).settleSlot a.slot with attempt := none } })
     | none => s)

/-! ## Discarded telegrams -/

/-- A discarded telegram or failed take-up, with no own attempt: it ends on the bus, and one that is truncated, as the
bus becomes idle, ends the take-up alone and leaves the quiet time as it is (R20, R32, R33). -/
def State.discard (s : State) : State := if s.idleNow then s.takeUpEnds else s.telegramEnds

/-- TELEGRAM_DISCARDED (R32, R33): no arrival and no trace; the receiver waits for the next idle bus. During an own
attempt the receiver follows what the attempt sends, so that the command then speaks of a take-up that was truncated
at the instant at which the attempt started, and that has ended with the bus idle. -/
def execTelegramDiscarded (s : State) : Host.Outcome State Fault Refusal :=
  .next (if s.runs ∧ s.pbi.attempt = none then s.discard else s)

end Sys2Proof.Machine
end

