-- ==== Sys2Proof/Machine/Clock.lean ====
section
/-! DEFINITION. The passing of time: with no command waiting, and nothing due at the present instant, a microsecond
passes (log 1). Every running
timer counts down, and each event that time alone brings about is put into the queue as its command. Events
that carry data from outside are never made here (log 1, 33). -/

namespace Sys2Proof.Machine

/-! ## What is due in the microsecond that passes -/

/-- Whether a timer runs out in the microsecond that passes. -/
def endsNow : Option Nat → Bool
  | some t => t ≤ 1
  | none => false

/-- A command when it is due. -/
def dueIf (b : Bool) (c : Instr) : List Instr := if b then [c] else []

/-- START's time limits (R148, R166). -/
def State.startDue (s : State) : List Instr :=
  (match s.mdu.image with
   | .reading left => dueIf (left ≤ 1) .imageReadTimeout
   | _ => []) ++
  (match s.mdu.scan with
   | .reading _ left => dueIf (left ≤ 1) .markerReadTimeout
   | .done => [])

/-- The periods that run with the blocks: the own beacon period with its free order (log 4), the scan start,
the HTR step (R169, R12, R69). -/
def State.periodsDue (s : State) : List Instr :=
  dueIf (endsNow s.mdu.beaconTimer) (.ownBeaconPeriod (Config.tieChoice s.freeIndex)) ++
  dueIf (endsNow s.mfe.scanTimer) .scanStart ++ dueIf (endsNow s.thu.stepTimer) .stepBoundary

/-- Whether the quiet time runs: from any level on, an own attempt's levels keeping it at 0 (R20, log 10). -/
def State.quietRuns (s : State) : Bool := s.runs && s.pbi.attempt.isNone

/-- Whether the collision holdoff runs: only while the bus is idle (R30). -/
def State.holdoffRuns (s : State) : Bool := s.runs && s.busIdle

/-- Whether an own attempt ends: without a collision its end is its success (R28). -/
def State.attemptEnds (s : State) : Bool :=
  match s.pbi.attempt with
  | some a => a.left ≤ 1
  | none => false

/-- Whether the bus becomes idle in the microsecond (R20). -/
def State.idleComes (s : State) : Bool := s.quietRuns && !s.busIdle && s.idleNow

/-- Whether the collision holdoff runs out in the microsecond (R30). -/
def State.holdoffEnds (s : State) : Bool := s.holdoffRuns && endsNow s.pbi.holdoff

/-- The bus events of the microsecond: idle, the holdoff's end, an attempt's end, and the attempt's start that the
first two may allow at that same instant (R20, R30, R28, R26). -/
def State.busDue (s : State) : List Instr :=
  dueIf s.idleComes .busIdle ++ dueIf s.holdoffEnds .holdoffRunsOut ++ dueIf s.attemptEnds .attemptSuccess ++
  dueIf ((s.idleComes || s.holdoffEnds) && s.pbi.choice.isSome) .attemptStart

/-- The sequencer's timer (R98, R101, R103). -/
def State.sequencerDue (s : State) : List Instr :=
  match s.imon.seq with
  | .waiting t => dueIf (t ≤ 1) .intervalTimerExpiry
  | .window t => dueIf (t ≤ 1) .windowTimerExpiry
  | .holdoff t => dueIf (t ≤ 1) .holdoffTimerExpiry
  | .off => []
  | .pending => []
  | .injecting _ _ => []

/-- The session's timers (R137, R142). -/
def State.sessionDue (s : State) : List Instr :=
  match s.slu.session with
  | .pending _ t => dueIf (t ≤ 1) .pendingTimerExpiry
  | .opened _ t => dueIf (endsNow t) .lineLossTimerExpiry
  | .idle => []
  | .ended .. => []

/-- The dormant timer (R172). -/
def State.dormantDue (s : State) : List Instr :=
  match s.mdu.dormantTimer with
  | .running t => dueIf (t ≤ 1) .dormantTimerExpiry
  | _ => []

/-- All that is due in the microsecond that passes. -/
def State.due (s : State) : List Instr :=
  s.startDue ++ s.periodsDue ++ s.busDue ++ s.sequencerDue ++ s.sessionDue ++ s.dormantDue ++
  dueIf (endsNow s.mdu.settling) .wakeSettlingEnd ++ dueIf (endsNow s.pvt.lossTimer) .contractLoss ++
  dueIf (s.clock.toAdvance ≤ 1) .oneSecondAdvance ++
  dueIf (endsNow s.she.overdrawTimer) .overdrawTimerExpiry ++
  dueIf (endsNow s.imon.peerIntent) .peerIntentTimerExpiry

/-! ## The order of events of one instant (log 3) -/

/-- A command put at a place of a list. -/
def insertAt (c : Instr) : Nat → List Instr → List Instr
  | 0, l => c :: l
  | _ + 1, [] => [c]
  | k + 1, x :: rest => x :: insertAt c k rest

/-- Some events of one instant in an order that nothing constrains: each is put at a free place among those
after it. -/
def freeOrder : Nat → List Instr → List Instr
  | _, [] => []
  | _, [c] => [c]
  | n, c :: rest => insertAt c (Config.tieOrder n % (rest.length + 1)) (freeOrder (n + 1) rest)

/-! ## A microsecond passes -/

/-- A timer one microsecond later. -/
def laterBy1 (t : Option Nat) : Option Nat := t.map (· - 1)

/-- The image read one microsecond later. -/
def ImageRead.later : ImageRead → ImageRead
  | .reading left => .reading (left - 1)
  | x => x

/-- The start scan one microsecond later. -/
def StartScan.later : StartScan → StartScan
  | .reading slot left => .reading slot (left - 1)
  | .done => .done

/-- The dormant timer one microsecond later. -/
def DormantTimer.later : DormantTimer → DormantTimer
  | .running left => .running (left - 1)
  | x => x

/-- The sequencer one microsecond later. -/
def Seq.later : Seq → Seq
  | .waiting t => .waiting (t - 1)
  | .window t => .window (t - 1)
  | .holdoff t => .holdoff (t - 1)
  | x => x

/-- The session one microsecond later. -/
def Session.later : Session → Session
  | .pending id t => .pending id (t - 1)
  | .opened r t => .opened r (laterBy1 t)
  | x => x

/-- An attempt one microsecond later. -/
def Attempt.later (a : Attempt) : Attempt := { a with left := a.left - 1 }

/-- The closing buffer one microsecond later. -/
def Buffer.later (b : Buffer) : Buffer := { b with left := b.left - 1 }

/-- The peer bus interface one microsecond later; the last microsecond of quiet is BUS_IDLE's own. -/
def State.laterBus (s : State) : PeerBus :=
  { s.pbi with
    quiet := if s.quietRuns ∧ s.pbi.quiet + 1 < idleTime then s.pbi.quiet + 1 else s.pbi.quiet,
    holdoff := if s.holdoffRuns then laterBy1 s.pbi.holdoff else s.pbi.holdoff,
    attempt := s.pbi.attempt.map Attempt.later }

/-- Every timer one microsecond later. -/
def State.countDown (s : State) : State :=
  { s with
    mdu.image := s.mdu.image.later, mdu.scan := s.mdu.scan.later, mdu.settling := laterBy1 s.mdu.settling,
    mdu.beaconTimer := laterBy1 s.mdu.beaconTimer, mdu.dormantTimer := s.mdu.dormantTimer.later,
    mfe.scanTimer := laterBy1 s.mfe.scanTimer, mfe.insClock := laterBy1 s.mfe.insClock, pbi := s.laterBus,
    pvt.lossTimer := laterBy1 s.pvt.lossTimer, clock.toAdvance := s.clock.toAdvance - 1,
    thu.stepTimer := laterBy1 s.thu.stepTimer, she.overdrawTimer := laterBy1 s.she.overdrawTimer,
    imon.seq := s.imon.seq.later, imon.timerFresh := false, imon.peerIntent := laterBy1 s.imon.peerIntent,
    slu.session := s.slu.session.later, slu.buffer := s.slu.buffer.map Buffer.later }

/-- A microsecond passes with no command waiting (log 1). -/
def State.idleTick (s : State) : State :=
  { s.countDown with freeIndex := s.freeIndex + s.due.length, pending := freeOrder s.freeIndex s.due }

/-- What is due at the present instant itself: an attempt starts at the first instant at which it may (R26), and an
interval set with no time left runs out at once (R100). -/
def State.dueNow (s : State) : List Instr :=
  dueIf (s.mayAttempt && s.pbi.choice.isSome) .attemptStart ++
  match s.imon.seq with
  | .waiting 0 => dueIf (!s.imon.timerFresh) .intervalTimerExpiry
  | _ => []

/-- A step with no command waiting (log 1): what is due at this instant is put into the queue, and only when nothing
is does a microsecond pass. -/
def State.idleStep (s : State) : State :=
  match s.dueNow with
  | [] => s.idleTick
  | due => { s with freeIndex := s.freeIndex + due.length, pending := freeOrder s.freeIndex due }

end Sys2Proof.Machine
end

