-- ==== Sys2Proof/Machine/Arrivals.lean ====
section
/-! DEFINITION. Meanings of the eight arrivals: the receiver's checks (R33, R34), the own id (R35), the
sender's entry (R36), the dispatch by kind (R40), and what each passed arrival does. -/

namespace Sys2Proof.Machine

/-- A complete telegram that the receiver has taken up: it ends on the bus; one that fails the checks, or is of
another kind than the command's, is discarded (R33, log 15); one of the own id latches DUP_ID and goes no further
(R35); any other settles its sender's entry, is reported as heard and is passed on (R34, R36, R40). -/
def State.completeTelegram (k : Kind) (t : List Byte) (pass : Received → State → State) (s : State) : State :=
  match checkTelegram t with
  | some rx =>
    if rx.kind = k then
      if rx.source = s.mdu.station then s.telegramEnds.latch .dupId
      else pass rx ((s.telegramEnds.settleEntry rx).heard k)
    else s.telegramEnds
  | none => s.telegramEnds

/-- A telegram of another station at the receiver. One that the receiver has not taken up (in progress at a start
or a wake, begun on a busy bus, or after a failed take-up) is no arrival, and its levels restart the quiet time alone
(R32, R20). -/
def State.receive (k : Kind) (t : List Byte) (pass : Received → State → State) (s : State) : State :=
  if s.runs then
    if s.takesUp then s.completeTelegram k t pass else { s with pbi.quiet := 0 }
  else s

/-- An arrival as a step, with the DORMANT entry test (R173). -/
def State.arrive (k : Kind) (t : List Byte) (pass : Received → State → State) (s : State) : State :=
  State.dormantTest s (s.receive k t pass)

/-! ## Beacons, intents, results -/

/-- A peer BEACON at the insulation monitor (R40): its injecting flag makes an own intent, window or
measurement stand back (R102, R103, R107). -/
def State.peerBeacon (rx : Received) (s : State) : State :=
  if (beaconPart rx.payload).injecting then s.standBack else s

/-- BEACON_ARRIVAL (R36, R37, R40). -/
def execBeaconArrival (t : List Byte) (s : State) : Host.Outcome State Fault Refusal :=
  .next (s.arrive .beacon t State.peerBeacon)

/-- A peer INJECT_INTENT (R97): the peer intent timer restarts, and the station stands back. -/
def State.peerIntentHeard (_rx : Received) (s : State) : State :=
  State.standBack { s with imon.peerIntent := some windowTime }

/-- INJECT_INTENT_ARRIVAL (R97, R102, R103, R107). -/
def execInjectIntentArrival (t : List Byte) (s : State) : Host.Outcome State Fault Refusal :=
  .next (s.arrive .injectIntent t State.peerIntentHeard)

/-- A peer ISO_RESULT (R112, R99): VALID and ABOVE_RANGE are classified and may restart the interval. -/
def State.peerResult (rx : Received) (s : State) : State :=
  match classifiedValue (resultKind rx.payload) (rd16 rx.payload 2) with
  | some r => (s.classify r).restartInterval
  | none => s

/-- ISO_RESULT_ARRIVAL (R112, R99). -/
def execIsoResultArrival (t : List Byte) (s : State) : Host.Outcome State Fault Refusal :=
  .next (s.arrive .isoResult t State.peerResult)

/-! ## Contract and HALT -/

/-- A CONTRACT passed to the record (R43). -/
def State.peerContract (rx : Received) (s : State) : State := s.contractArrives rx.source rx.payload

/-- CONTRACT_ARRIVAL (R43 to R47, R50, R52). -/
def execContractArrival (t : List Byte) (s : State) : Host.Outcome State Fault Refusal :=
  .next (s.arrive .contract t State.peerContract)

/-- A HALT passed to the record (R51). -/
def State.peerHalt (rx : Received) (s : State) : State := s.haltArrives rx.source

/-- HALT_ARRIVAL (R51). -/
def execHaltArrival (t : List Byte) (s : State) : Host.Outcome State Fault Refusal :=
  .next (s.arrive .halt t State.peerHalt)

/-! ## Log reads -/

/-- The record a slot holds, as read (R178). -/
def State.slotRecord (slot : Fin 16) (s : State) : List Byte := readBytes s.store (slotAddr slot 0) 47

/-- The answer to a request for a sequence (R153). -/
def State.sequenceStatus (n : Nat) (s : State) : ReplyStatus :=
  match slotOf s.slu.table n with
  | some slot => .record (s.slotRecord slot)
  | none =>
    match s.slu.buffer with
    | some b => if b.record.seq = n then .pendingWrite else .notHeld
    | none => .notHeld

/-- The answer to a request for the newest record (R153). -/
def State.newestStatus (s : State) : ReplyStatus :=
  match heldSequences s.slu.table with
  | [] => .notHeld
  | _ =>
    match slotOf s.slu.table (newestSeq s.slu.table) with
    | some slot => .record (s.slotRecord slot)
    | none => .notHeld

/-- The answer to a LOG_READ: form 1 is NEWEST, any other form requests the sequence (section 11.2.6). -/
def State.replyStatus (p : List Byte) (s : State) : ReplyStatus :=
  if rd8 p 1 = 1 then s.newestStatus else s.sequenceStatus (rd32 p 2)

/-- A LOG_READ (R153, R154): for the own id and with the slot free a reply is loaded. -/
def State.peerLogRead (rx : Received) (s : State) : State :=
  if rd8 rx.payload 0 = s.mdu.station ∧ s.pbi.logReply = none then
    s.loadReply (logReplyPayload (s.replyStatus rx.payload) s.slu.table)
  else s

/-- LOG_READ_ARRIVAL (R153, R154). -/
def execLogReadArrival (t : List Byte) (s : State) : Host.Outcome State Fault Refusal :=
  .next (s.arrive .logRead t State.peerLogRead)

/-- A LOG_RECORD is not passed on (R40). -/
def State.peerLogRecord (_rx : Received) (s : State) : State := s

/-- LOG_RECORD_ARRIVAL (R40). -/
def execLogRecordArrival (t : List Byte) (s : State) : Host.Outcome State Fault Refusal :=
  .next (s.arrive .logRecord t State.peerLogRecord)

/-! ## Clearing flags -/

/-- Whether a flag's condition still holds, or the flag is cleared by a reset alone (R161, R162). -/
def State.holdsFlag (s : State) (f : Flag) : Bool :=
  match f with
  | .isoWarn => s.imon.insulation != .good
  | .isoFault => s.imon.insulation == .fault
  | .injector => false
  | .thermSensor => s.thu.sensorFault
  | .heaterHot => s.thu.heater == .lockout
  | .line => s.mfe.line == .fault
  | .overdraw => s.she.overdraw
  | .dupId => true
  | .config => true
  | .frontEnd => s.mfe.refCount == 2
  | .log => false
  | .contractConflict =>
    match s.pvt.record with
    | some r =>
      match r.status with
      | .conflicted _ => true
      | _ => false
    | none => false

/-- The flags a FLAG_CLEAR clears: named, latched, and with their condition ended (R160). -/
def State.clearable (named : FlagSet) (s : State) : List Flag :=
  allFlags.filter fun f => FlagSet.has named f && s.latched f && !s.holdsFlag f

/-- Some flags taken out of a set. -/
def FlagSet.removeAll (fs : FlagSet) (l : List Flag) : FlagSet := l.foldl FlagSet.remove fs

/-- The clear of INJECTOR at the insulation monitor (R111, R163). -/
def State.injectorCleared (s : State) : State := { s with imon.noResponse := 0 }.leaveOff

/-- The flags judged and cleared, ALERT updated once, and the clears reported to the session unit and the
insulation monitor (R160, R163). -/
def State.clearFlags (named : FlagSet) (s : State) : State :=
  match s.clearable named with
  | [] => s
  | l =>
    if Flag.injector ∈ l then
      { s with flu.flags := FlagSet.removeAll s.flu.flags l }.updateAlert.openingTest.injectorCleared
    else { s with flu.flags := FlagSet.removeAll s.flu.flags l }.updateAlert.openingTest

/-- A FLAG_CLEAR (R40, R160): handled when the target is the own id or ALL. -/
def State.peerFlagClear (rx : Received) (s : State) : State :=
  if rd8 rx.payload 0 = s.mdu.station ∨ rd8 rx.payload 0 = 255 then
    s.clearFlags (FlagSet.ofCode (rd16 rx.payload 1))
  else s

/-- FLAG_CLEAR_ARRIVAL (R160 to R164). -/
def execFlagClearArrival (t : List Byte) (s : State) : Host.Outcome State Fault Refusal :=
  .next (s.arrive .flagClear t State.peerFlagClear)

end Sys2Proof.Machine
end

