-- ==== Sys2Proof/Machine/PinEvents.lean ====
section
/-! DEFINITION. Meanings of the pin and wake events: TELEGRAM_START_EVENT, PLUG_ASSERTION, PLUG_RELEASE,
PWR_FAIL_ASSERTION, PWR_FAIL_RELEASE (R171, R173, R174). -/

namespace Sys2Proof.Machine

/-- TELEGRAM_START_EVENT (R174): it wakes a sleeping station whose wake on bus is 1. -/
def execTelegramStartEvent (s : State) : Host.Outcome State Fault Refusal :=
  .next (if s.asleep ∧ s.mdu.cfg.wakeBus then s.wake else s)

/-- PLUG_ASSERTION (R174): PLUG is active; it wakes a sleeping station whose wake on plug is 1. -/
def execPlugAssertion (s : State) : Host.Outcome State Fault Refusal :=
  .next (if s.asleep ∧ s.mdu.cfg.wakePlug then { s with pins.plug := true }.wake else { s with pins.plug := true })

/-- PLUG_RELEASE (R173): PLUG is inactive, and the DORMANT entry test is made. -/
def execPlugRelease (s : State) : Host.Outcome State Fault Refusal :=
  .next (State.dormantTest s { s with pins.plug := false })

/-- A PWR_FAIL assertion by mode (R171), the pin being active already. -/
def State.powerFailByMode (s : State) : State :=
  match s.mdu.mode with
  | .listening => s.takePowerFail
  | .run => s.takePowerFail
  | .powerHold => s
  | .configHold => s
  | .start => { s with mdu.heldPwrFail := true }
  | .dormant => { s with mdu.heldPwrFail := true }

/-- PWR_FAIL_ASSERTION (R171, R93, R152). -/
def execPwrFailAssertion (s : State) : Host.Outcome State Fault Refusal :=
  .next { s with pins.pwrFail := true }.powerFailByMode

/-- PWR_FAIL_RELEASE (R171): the input is inactive; a held assertion is looked at when LISTENING is reached. -/
def execPwrFailRelease (s : State) : Host.Outcome State Fault Refusal :=
  .next { s with pins.pwrFail := false }

end Sys2Proof.Machine
end

