-- ==== Sys2Proof/Machine/Sampling.lean ====
section
/-! DEFINITION. Meanings of the measurement front end's commands: METERING_SAMPLE, LOSS_COUNT_REACHED,
RMS_WINDOW_COMPLETE, SCAN_START, SCAN_COMPLETE (R1 to R16). -/

namespace Sys2Proof.Machine

/-- One metering sample at line timing, the RMS section and the energy meter, with limited codes (R2). -/
def State.takeMetering (v i : Int) (meterFirst : Bool) (s : State) : State :=
  if meterFirst then ((s.meterSample v i).lineSample v i).keepSample v
  else ((s.lineSample v i).keepSample v).meterSample v i

/-- METERING_SAMPLE (R2, R3 to R11, R121). -/
def execMeteringSample (v i : Int) (meterFirst : Bool) (s : State) : Host.Outcome State Fault Refusal :=
  .next (if s.runs then s.takeMetering (meteringCode v) (meteringCode i) meterFirst else s)

/-- LOSS_COUNT_REACHED (R9): the line state becomes ABSENT, from any other (log 13). -/
def execLossCountReached (s : State) : Host.Outcome State Fault Refusal :=
  .next (if s.runs ∧ s.mfe.line ≠ .absent then s.loseLine else s)

/-- RMS_WINDOW_COMPLETE (R11): in ABSENT the window that has samples is published (log 13). -/
def execRmsWindowComplete (s : State) : Host.Outcome State Fault Refusal :=
  .next
    (if s.runs ∧ s.mfe.line = .absent ∧ 0 < s.mfe.n then { s with mfe := s.mfe.publishWindow } else s)

/-- SCAN_START (R12). -/
def execScanStart (s : State) : Host.Outcome State Fault Refusal :=
  .next (if s.runs then { s with mfe.scanning := true, mfe.scanTimer := some scanPeriod } else s)

/-! ## A scan -/

/-- The filtered value of a channel: the first after an empty history is the value itself (R15). -/
def filtered (h : Option (Int × Int)) (x : Option Int) : Option Int :=
  match x, h with
  | some x0, some (x1, x2) => some ((x0 + 2 * x1 + x2) / 4)
  | some x0, none => some x0
  | none, _ => none

/-- The history of a channel after a scan (R15). -/
def historyAfter (h : Option (Int × Int)) (x : Option Int) : Option (Int × Int) :=
  match x, h with
  | some x0, some (x1, _) => some (x0, x1)
  | some x0, none => some (x0, x0)
  | none, _ => none

/-- A function of two values per channel. -/
def Sensors.zip {α β γ : Type} (f : α → β → γ) (a : Sensors α) (b : Sensors β) : Sensors γ :=
  { t1 := f a.t1 b.t1, t2 := f a.t2 b.t2, t3 := f a.t3 b.t3, t4 := f a.t4 b.t4, th := f a.th b.th }

/-- The converted values of a scan's five temperature codes (R14). -/
def convertTemps (t1 t2 t3 t4 th : BitVec 12) : Sensors (Option Int) :=
  { t1 := tempOf t1, t2 := tempOf t2, t3 := tempOf t3, t4 := tempOf t4, th := tempOf th }

/-- The count of consecutive out-of-tolerance scans after a REF code (R16). -/
def refCountAfter (ref : BitVec 12) (n : Nat) : Nat := if refInTolerance ref then 0 else min (n + 1) 2

/-- FRONTEND latched at the scan at which the count reaches 2 (R16). -/
def State.refLatch (before : Nat) (s : State) : State :=
  if before < 2 ∧ s.mfe.refCount = 2 then s.latch .frontEnd else s

/-- The new record published (R12 step 2). -/
def State.publishScan (record : ScanRecord) (s : State) : State :=
  { s with mfe.record := record, mfe.scanning := false }

/-- The front end at the seventh completion (R12): the temperatures filtered, the reference checked, the
record published. -/
def State.finishScan (ustr : BitVec 12) (temps : Sensors (Option Int)) (ref : BitVec 12) (s : State) : State :=
  State.publishScan { ustr := some (ustrOf ustr), temps := Sensors.zip filtered s.mfe.history temps }
    (State.refLatch s.mfe.refCount
      { s with
        mfe.history := Sensors.zip historyAfter s.mfe.history temps,
        mfe.refCount := refCountAfter ref s.mfe.refCount })

/-- Scan complete at the energy meter and at the thermal unit and share engine, in either order (R131). -/
def State.scanConsumers (meterFirst : Bool) (s : State) : State :=
  if meterFirst then s.meterScan.thermalScan else s.thermalScan.meterScan

/-- SCAN_COMPLETE (R12 to R16, R62, R73, R85, R131). -/
def execScanComplete (ustr t1 t2 t3 t4 th ref : BitVec 12) (meterFirst : Bool) (s : State) :
    Host.Outcome State Fault Refusal :=
  .next
    (if s.runs then
      State.dormantTest s ((s.finishScan ustr (convertTemps t1 t2 t3 t4 th) ref).scanConsumers meterFirst)
    else s)

end Sys2Proof.Machine
end

