-- ==== Sys2Proof/Machine/StartUp.lean ====
section
/-! DEFINITION. Meanings of the resets and of START's commands: POWER_ON_RESET, RSTN, IMAGE_READ_COMPLETE,
IMAGE_READ_TIMEOUT, MARKER_READ_COMPLETE, MARKER_READ_TIMEOUT (R148, R165 to R168, R176). -/

namespace Sys2Proof.Machine

/-- POWER_ON_RESET (R176): every block at its start values in START, the straps read, the clock reset. -/
def execPowerOnReset (idStrap : BitVec 4) (phaseStrap : BitVec 2) (s : State) :
    Host.Outcome State Fault Refusal :=
  .next (s.powerOn idStrap.toNat phaseStrap.toNat)

/-- RSTN (R176): as a power-on reset, the local time and time-valid running on. -/
def execRstn (idStrap : BitVec 4) (phaseStrap : BitVec 2) (s : State) : Host.Outcome State Fault Refusal :=
  .next (s.externalReset idStrap.toNat phaseStrap.toNat)

/-- Whether START waits for the image read. -/
def State.readingImage (s : State) : Bool :=
  s.mdu.mode == .start && match s.mdu.image with
    | .reading _ => true
    | _ => false

/-- The image check completed with an image (R167). -/
def State.checkImage (image : List Byte) (s : State) : State :=
  match imageCheck image s.mdu.phase with
  | some cfg => { s with mdu.image := .passed cfg }
  | none => s.failImage

/-- IMAGE_READ_COMPLETE (R166, R167). -/
def execImageReadComplete (image : List Byte) (s : State) : Host.Outcome State Fault Refusal :=
  .next (if s.readingImage then (s.checkImage image).startTest else s)

/-- IMAGE_READ_TIMEOUT (R166): no image, a failed check; a read begun at this instant has its time still (log 2). -/
def execImageReadTimeout (s : State) : Host.Outcome State Fault Refusal :=
  .next
    (match s.mdu.mode, s.mdu.image with
     | .start, .reading left => if left < imageTime then s.failImage.startTest else s
     | _, _ => s)

/-- The start scan's slot read, with what was found in it (R148), in START. -/
def State.scanFound (found : Fin 16 → Option Nat) (s : State) : State :=
  match s.mdu.mode, s.mdu.scan with
  | .start, .reading slot _ => (s.scanSlot slot (found slot)).startTest
  | _, _ => s

/-- MARKER_READ_COMPLETE (R148, R178): the slot is entered by its marker. -/
def execMarkerReadComplete (s : State) : Host.Outcome State Fault Refusal :=
  .next (s.scanFound (committedSeq s.store))

/-- MARKER_READ_TIMEOUT (R148): the slot is taken as one without a marker. The command stands for the 1 ms run out and
for a read that the store reports as failed (log 35). A read begun at this instant has its time still (log 2); that a
failure reported at that very instant changes nothing either is a DESIGN CHOICE, for R148 puts no time condition on the
report (log 40). -/
def execMarkerReadTimeout (s : State) : Host.Outcome State Fault Refusal :=
  .next
    (match s.mdu.scan with
     | .reading _ left => if left < markerTime then s.scanFound fun _ => none else s
     | .done => s)

end Sys2Proof.Machine
end

