-- ==== Sys2Proof/Machine/Timers.lean ====
section
/-! DEFINITION. Meanings of the periods and timers of the other blocks: OWN_BEACON_PERIOD, CONTRACT_LOSS,
ONE_SECOND_ADVANCE, STEP_BOUNDARY, OVERDRAW_TIMER_EXPIRY, PENDING_TIMER_EXPIRY, LINE_LOSS_TIMER_EXPIRY,
STORE_WRITE_COMPLETION, DORMANT_TIMER_EXPIRY, WAKE_SETTLING_END. A timer's command acts when its timer runs and
time has passed since it was set (log 2). -/

namespace Sys2Proof.Machine

/-- OWN_BEACON_PERIOD (R169, R38, R80, R41, R170). -/
def execOwnBeaconPeriod (ageFirst : Bool) (s : State) : Host.Outcome State Fault Refusal :=
  .next (if s.runs then s.beaconPeriodFires ageFirst else s)

/-- CONTRACT_LOSS (R49): a timer that an arrival has restarted at this instant is not run out. -/
def execContractLoss (s : State) : Host.Outcome State Fault Refusal :=
  .next (if hasRun lossTime s.pvt.lossTimer then State.dormantTest s s.loseContract else s)

/-- ONE_SECOND_ADVANCE (R52), in every mode; an active meter tests its interval (R126). A set at this instant has
restarted the one-second phase, and the advance is not applied. -/
def execOneSecondAdvance (s : State) : Host.Outcome State Fault Refusal :=
  .next (if s.clock.toAdvance < secondTime then { s with clock := s.clock.advance }.meterSecond else s)

/-- HTR at a step boundary (R69). -/
def State.stepBoundary (s : State) : State :=
  { s with
    thu.step := (s.thu.step + 1) % 16, thu.stepTimer := some stepTime,
    thu.htr := decide ((s.thu.step + 1) % 16 < s.thu.inForce) }

/-- STEP_BOUNDARY (R69). -/
def execStepBoundary (s : State) : Host.Outcome State Fault Refusal :=
  .next (if s.runs then s.stepBoundary else s)

/-- The overdraw hold and the overdraw event, with the session OPEN (R91). -/
def State.overdrawHold (s : State) : State :=
  if s.slu.session.isOpen then ({ s with she.hold := true }.convert).endSession .overdraw else s

/-- OVERDRAW_TIMER_EXPIRY (R90, R91). -/
def execOverdrawTimerExpiry (s : State) : Host.Outcome State Fault Refusal :=
  .next
    (if hasRun overdrawTime s.she.overdrawTimer then
      State.dormantTest s
        ({ s with she.overdrawTimer := none, she.overdraw := true }.latch .overdraw).overdrawHold
    else s)

/-- PENDING_TIMER_EXPIRY (R139). -/
def execPendingTimerExpiry (s : State) : Host.Outcome State Fault Refusal :=
  .next
    (match s.slu.session with
     | .pending _ left => if left < pendingTime then State.dormantTest s s.returnToIdle else s
     | _ => s)

/-- LINE_LOSS_TIMER_EXPIRY (R142). -/
def execLineLossTimerExpiry (s : State) : Host.Outcome State Fault Refusal :=
  .next
    (match s.slu.session with
     | .opened _ left => if hasRun lineLossTime left then State.dormantTest s (s.endSession .lineLost) else s
     | _ => s)

/-- A successful write: the record is committed and the buffer freed (R149 steps 1 and 2). -/
def State.commitBuffer (b : Buffer) (s : State) : State :=
  { s with
    store := commitRecord s.store b.target b.record.bytes,
    slu.table := s.slu.table.set b.target.val (some b.record.seq),
    slu.buffer := none }

/-- A completion of a write: a session waiting in ENDED moves in when the buffer frees (R149, R150). -/
def State.writeDone (success : Bool) (b : Buffer) (s : State) : State :=
  if success then (s.commitBuffer b).moveToBuffer
  else
    match b.failedSlot with
    | none => s.startWrite b.record (some b.target)
    | some _ => ({ s with slu.buffer := none }.latch .log).moveToBuffer

/-- STORE_WRITE_COMPLETION (R149, R150). -/
def execStoreWriteCompletion (success : Bool) (s : State) : Host.Outcome State Fault Refusal :=
  .next
    (match s.slu.buffer with
     | some b => State.dormantTest s (s.writeDone success b)
     | none => s)

/-- DORMANT_TIMER_EXPIRY (R172, R173). -/
def execDormantTimerExpiry (s : State) : Host.Outcome State Fault Refusal :=
  .next
    (match s.mdu.dormantTimer with
     | .running left =>
       if left < s.dormantTime then State.dormantTest s { s with mdu.dormantTimer := .expired } else s
     | _ => s)

/-- WAKE_SETTLING_END (R174). -/
def execWakeSettlingEnd (s : State) : Host.Outcome State Fault Refusal :=
  .next (if s.mdu.mode = .dormant ∧ hasRun settleTime s.mdu.settling then s.enterListening else s)

end Sys2Proof.Machine
end

