-- ==== Sys2Proof/Machine/Turns.lean ====
section
/-! DEFINITION. Meanings of the insulation monitor's commands: INSULATION_SAMPLE, INTERVAL_TIMER_EXPIRY,
WINDOW_TIMER_EXPIRY, HOLDOFF_TIMER_EXPIRY, PEER_INTENT_TIMER_EXPIRY (R97 to R111). -/

namespace Sys2Proof.Machine

/-- INSULATION_SAMPLE (R105, R18): taken in INJECTING alone (R17). -/
def execInsulationSample (code : Int) (s : State) : Host.Outcome State Fault Refusal :=
  .next
    (match s.imon.seq with
     | .injecting p index => State.dormantTest s (s.takeSample p (index + 1) (insulationCode code))
     | _ => s)

/-- INTERVAL_TIMER_EXPIRY (R98); an interval that a result has restarted at this instant goes on (R99). -/
def execIntervalTimerExpiry (s : State) : Host.Outcome State Fault Refusal :=
  .next
    (match s.imon.seq with
     | .waiting _ => if s.imon.timerFresh then s else s.takeTurn
     | _ => s)

/-- WINDOW_TIMER_EXPIRY (R103). -/
def execWindowTimerExpiry (s : State) : Host.Outcome State Fault Refusal :=
  .next
    (match s.imon.seq with
     | .window _ => if s.imon.timerFresh then s else s.startInjecting
     | _ => s)

/-- HOLDOFF_TIMER_EXPIRY (R101). -/
def execHoldoffTimerExpiry (s : State) : Host.Outcome State Fault Refusal :=
  .next
    (match s.imon.seq with
     | .holdoff _ => if s.imon.timerFresh then s else s.takeTurn
     | _ => s)

/-- PEER_INTENT_TIMER_EXPIRY (R97): the timer stops, unless an intent has restarted it at this instant. -/
def execPeerIntentTimerExpiry (s : State) : Host.Outcome State Fault Refusal :=
  .next (if hasRun windowTime s.imon.peerIntent then { s with imon.peerIntent := none } else s)

end Sys2Proof.Machine
end

