-- ==== Sys2Proof/Machine/Dispatch.lean ====
section
/-! DEFINITION. The dispatch: one arm per command of the table, each one call of its meaning. -/

namespace Sys2Proof.Machine

/-- The effect of a command on everything but the queue. -/
def exec (i : Instr) (s : State) : Host.Outcome State Fault Refusal :=
  match i with
  | .powerOnReset idStrap phaseStrap => Sys2Proof.Machine.execPowerOnReset idStrap phaseStrap s
  | .rstn idStrap phaseStrap => Sys2Proof.Machine.execRstn idStrap phaseStrap s
  | .imageReadComplete image => Sys2Proof.Machine.execImageReadComplete image s
  | .imageReadTimeout => Sys2Proof.Machine.execImageReadTimeout s
  | .markerReadComplete => Sys2Proof.Machine.execMarkerReadComplete s
  | .markerReadTimeout => Sys2Proof.Machine.execMarkerReadTimeout s
  | .meteringSample v cur meterFirst => Sys2Proof.Machine.execMeteringSample v cur meterFirst s
  | .lossCountReached => Sys2Proof.Machine.execLossCountReached s
  | .rmsWindowComplete => Sys2Proof.Machine.execRmsWindowComplete s
  | .scanStart => Sys2Proof.Machine.execScanStart s
  | .scanComplete ustr t1 t2 t3 t4 th ref meterFirst => Sys2Proof.Machine.execScanComplete ustr t1 t2 t3 t4 th ref meterFirst s
  | .insulationSample code => Sys2Proof.Machine.execInsulationSample code s
  | .busIdle => Sys2Proof.Machine.execBusIdle s
  | .attemptStart => Sys2Proof.Machine.execAttemptStart s
  | .collision => Sys2Proof.Machine.execCollision s
  | .attemptSuccess => Sys2Proof.Machine.execAttemptSuccess s
  | .holdoffRunsOut => Sys2Proof.Machine.execHoldoffRunsOut s
  | .telegramDiscarded => Sys2Proof.Machine.execTelegramDiscarded s
  | .beaconArrival telegram => Sys2Proof.Machine.execBeaconArrival telegram s
  | .contractArrival telegram => Sys2Proof.Machine.execContractArrival telegram s
  | .haltArrival telegram => Sys2Proof.Machine.execHaltArrival telegram s
  | .injectIntentArrival telegram => Sys2Proof.Machine.execInjectIntentArrival telegram s
  | .isoResultArrival telegram => Sys2Proof.Machine.execIsoResultArrival telegram s
  | .logReadArrival telegram => Sys2Proof.Machine.execLogReadArrival telegram s
  | .logRecordArrival telegram => Sys2Proof.Machine.execLogRecordArrival telegram s
  | .flagClearArrival telegram => Sys2Proof.Machine.execFlagClearArrival telegram s
  | .ownBeaconPeriod ageFirst => Sys2Proof.Machine.execOwnBeaconPeriod ageFirst s
  | .contractLoss => Sys2Proof.Machine.execContractLoss s
  | .oneSecondAdvance => Sys2Proof.Machine.execOneSecondAdvance s
  | .stepBoundary => Sys2Proof.Machine.execStepBoundary s
  | .overdrawTimerExpiry => Sys2Proof.Machine.execOverdrawTimerExpiry s
  | .intervalTimerExpiry => Sys2Proof.Machine.execIntervalTimerExpiry s
  | .windowTimerExpiry => Sys2Proof.Machine.execWindowTimerExpiry s
  | .holdoffTimerExpiry => Sys2Proof.Machine.execHoldoffTimerExpiry s
  | .peerIntentTimerExpiry => Sys2Proof.Machine.execPeerIntentTimerExpiry s
  | .pendingTimerExpiry => Sys2Proof.Machine.execPendingTimerExpiry s
  | .lineLossTimerExpiry => Sys2Proof.Machine.execLineLossTimerExpiry s
  | .storeWriteCompletion success => Sys2Proof.Machine.execStoreWriteCompletion success s
  | .dormantTimerExpiry => Sys2Proof.Machine.execDormantTimerExpiry s
  | .telegramStartEvent => Sys2Proof.Machine.execTelegramStartEvent s
  | .plugAssertion => Sys2Proof.Machine.execPlugAssertion s
  | .plugRelease => Sys2Proof.Machine.execPlugRelease s
  | .wakeSettlingEnd => Sys2Proof.Machine.execWakeSettlingEnd s
  | .pwrFailAssertion => Sys2Proof.Machine.execPwrFailAssertion s
  | .pwrFailRelease => Sys2Proof.Machine.execPwrFailRelease s
  | .busActivity => Sys2Proof.Machine.execBusActivity s

end Sys2Proof.Machine
end

