-- ==== Sys2Proof/Safety.lean ====
section
/-! DEFINITION. What counts as a safe state of the part: what the spec promises of its outputs, its claim,
its sessions and its log, whatever commands arrive. Each is an invariant that a step is meant to keep. -/

namespace Sys2Proof.Machine

/-- Injection (R94, R96, R104): ISO_SW and the injecting flag are those of the sequencer's state, so that
ISO_SW is closed in INJECTING alone, and the sequencer is OFF outside RUN and while INJECTOR, DUP_ID or CONFIG
is latched. -/
abbrev State.InjectionSafe (s : State) : Prop :=
  s.imon.isoSw = s.imon.seq.switch ∧ s.imon.injecting = s.imon.seq.flag ∧
  (s.sequencerBarred = true → s.imon.seq = .off)

/-- Heating (R68, R69): the duty in force is duty_applied with the gate open and 0 with the gate closed, and
HTR is closed only in a step whose index is below it. -/
abbrev State.HeaterSafe (s : State) : Prop :=
  (s.thu.inForce =
    if s.thu.heater = .on ∧ s.slu.session.isOpen = true ∧ s.mdu.mode = .run then s.she.dutyApplied else 0) ∧
  (s.thu.htr = true → s.thu.step < s.thu.inForce)

/-- Charging (R74, R79, R83, R87, R88): D is the lesser of the claim and the claim transmitted, the claim is
within Cmax and the pool and 0 under a zeroing condition, and CHG_EN and the reference follow Idc_set, which is
0 while nothing is drawn. -/
abbrev State.ChargeSafe (s : State) : Prop :=
  s.she.drawn = min s.she.claim s.she.claimTx ∧
  s.she.wanting = decide (s.she.claim < s.she.demand) ∧
  (s.claimBarred = true → s.she.claim = 0) ∧
  s.she.claim ≤ s.mdu.cfg.cmax ∧ s.she.claim ≤ s.ownLimit - s.mdu.cfg.margin ∧
  (s.she.drawn = 0 → s.she.dutyApplied = 0 ∧ s.she.phApplied = 0 ∧ s.she.idcSet = 0) ∧
  s.she.chgEn = decide (0 < s.she.idcSet) ∧ s.she.iRef = s.she.idcSet

/-- Sessions (R115, R116, R119, R120, R138): a session is OPEN in RUN alone and never with the insulation state
FAULT, where no clearance is held either, and the energy meter is active exactly while a session is OPEN. -/
abbrev State.SessionSafe (s : State) : Prop :=
  (s.slu.session.isOpen = true → s.mdu.mode = .run) ∧
  (s.imon.insulation = .fault → s.slu.session.isOpen = false ∧ s.imon.clearance = false) ∧
  s.emt.active = s.slu.session.isOpen

/-- Opening (R138): no session stays PENDING with its opening test passing, for the test is made again at every change
of its inputs. -/
abbrev State.OpeningSafe (s : State) : Prop := s.slu.session.isPending = true → s.mayOpen = false

/-- ALERT (R157, R158): released in START, and elsewhere asserted exactly while a latched flag is outside the
mask in force, which is empty in CONFIG_HOLD. -/
abbrev State.AlertSafe (s : State) : Prop :=
  s.flu.alert =
    match s.mdu.mode with
    | .start => false
    | .configHold => s.flu.flags != 0
    | _ => s.flu.flags &&& ~~~ s.mdu.cfg.alertMask != 0

/-- The session log (R146, R149): 16 slots that hold no sequence twice, and a record in the closing buffer
whose sequence is above every one they hold. -/
abbrev State.LogDistinct (s : State) : Prop :=
  s.slu.table.length = 16 ∧ (heldSequences s.slu.table).Nodup ∧
  match s.slu.buffer with
  | some b => newestSeq s.slu.table < b.record.seq
  | none => True

/-- The log on the retained store (R148, R149, R178): the store has its canonical form, a slot that the table
gives a sequence holds a committed record of that sequence, and the sequence waiting in the closing buffer fits
its field. -/
abbrev State.LogHeld (s : State) : Prop :=
  Memory.wf s.store = true ∧ s.slu.table.length = 16 ∧
  (∀ slot n, slotEntry s.slu.table slot = some n → committedSeq s.store slot = some n) ∧
  match s.slu.buffer with
  | some b => b.record.seq ≤ lastSequence
  | none => True

/-- The peer view (R36, R37, R38): ids below 16 that rise strictly, none of them the own id, ages below 8, and a
module part with MODULE entries alone. -/
abbrev State.ViewSafe (s : State) : Prop :=
  s.pvt.view.Pairwise (fun a b => a.id < b.id) ∧
  ∀ e ∈ s.pvt.view, e.id < 16 ∧ e.id ≠ s.mdu.station ∧ e.age < 8 ∧ (e.role ≠ .module → e.part = none)

/-! ## What the rules say of one command's work, in their own terms -/

/-- R4: a cycle's period in range. -/
abbrev PeriodGood (period : Nat) : Prop := 15385 ≤ period ∧ period ≤ 22222

/-- R4: a cycle's Urms in range. -/
abbrev UrmsGood (urms : Nat) : Prop := 1800 ≤ urms ∧ urms ≤ 2650

/-- R6, R7, R8: the line state and its three counters after a completed cycle, from those before it. In
ABSENT no cycle completes, and R8 speaks of the settle count alone. -/
def LineAfter (line : LineState) (settle badPeriod badUrms period urms : Nat) (line' : LineState)
    (settle' badPeriod' badUrms' : Nat) : Prop :=
  match line with
  | .settling =>
    if PeriodGood period ∧ UrmsGood urms then
      if settle + 1 < 8 then
        line' = .settling ∧ settle' = settle + 1 ∧ badPeriod' = badPeriod ∧ badUrms' = badUrms
      else line' = .good ∧ settle' = 0 ∧ badPeriod' = 0 ∧ badUrms' = 0
    else line' = .settling ∧ settle' = 0 ∧ badPeriod' = badPeriod ∧ badUrms' = badUrms
  | .good =>
    if (¬ PeriodGood period ∧ 3 ≤ badPeriod + 1) ∨ (¬ UrmsGood urms ∧ 3 ≤ badUrms + 1) then
      line' = .fault ∧ settle' = 0 ∧ badPeriod' = 0 ∧ badUrms' = 0
    else
      line' = .good ∧ settle' = settle ∧ badPeriod' = (if PeriodGood period then 0 else badPeriod + 1) ∧
      badUrms' = (if UrmsGood urms then 0 else badUrms + 1)
  | .fault =>
    if PeriodGood period then
      line' = .settling ∧ settle' = (if UrmsGood urms then 1 else 0)
    else line' = .fault ∧ settle' = settle ∧ badPeriod' = badPeriod ∧ badUrms' = badUrms
  | .absent => True

/-- R14, R15: a temperature channel's filtered value and history after a scan, from its code and the history
before it. -/
def ChannelAfter (code : BitVec 12) (history : Option (Int × Int)) (value' : Option Int)
    (history' : Option (Int × Int)) : Prop :=
  if code.toNat < 16 ∨ 4079 < code.toNat then value' = none ∧ history' = none
  else
    match history with
    | none =>
      value' = some (((code.toNat * 125 / 256 : Nat) : Int) - 500) ∧
      history' = some (((code.toNat * 125 / 256 : Nat) : Int) - 500, ((code.toNat * 125 / 256 : Nat) : Int) - 500)
    | some (x1, x2) =>
      value' = some ((((code.toNat * 125 / 256 : Nat) : Int) - 500 + 2 * x1 + x2) / 4) ∧
      history' = some (((code.toNat * 125 / 256 : Nat) : Int) - 500, x1)

/-- R32: the receiver has taken up the telegram of an arrival. The blocks run, and either another station's telegram is
being collected, or the bus is idle with no own attempt and the telegram comes whole (log 10). -/
abbrev State.Hears (s : State) : Prop :=
  s.mdu.mode.runs = true ∧
  ((s.pbi.receiving = true ∧ s.pbi.foreign = true) ∨ (80 ≤ s.pbi.quiet ∧ s.pbi.attempt = none))

/-- R43, R47, R49: whether a CONTRACT of a peer is accepted, by the record and the view at its arrival. -/
def Accepts (view : List Entry) (record : Option Contract) (source seq : Nat) : Prop :=
  match record with
  | none => True
  | some r =>
    match r.status with
    | .held => if r.source = source then r.seq ≠ seq else showsInlet view r.source = false
    | .conflicted _ => False
    | .resolving => True

/-- R48: a conflict in which a station takes part, as the source or as the contender. -/
def Contract.Between (r : Contract) (id : Nat) : Prop := ∃ x, r.status = .conflicted x ∧ (r.source = id ∨ x = id)

/-- R137, R147: the conditions under which an IDLE session becomes PENDING. -/
abbrev Startable (mode : Mode) (plugged : Bool) (id halted : Nat) : Prop :=
  (mode = .listening ∨ mode = .run) ∧ plugged = true ∧ id ≠ 0 ∧ id ≠ halted

/-- R137, R139, R141, R146, R147: whether an accepted contract whose id may start a session finds the session in a
state from which that session becomes PENDING at once: IDLE, PENDING with another id, or OPEN with another id and a
closing buffer that takes its record. -/
def Starts (session : Session) (bufferFree : Bool) (id : Nat) : Prop :=
  match session with
  | .idle => True
  | .pending own _ => own ≠ id
  | .opened r _ => r.id ≠ id ∧ bufferFree = true
  | .ended .. => False

/-- R138, R144, R145, R119: the session of an id OPEN, with its record begun, its stamp of the local clock and its flag
set, and the meter active. -/
def Opens (id : Nat) (s t : State) : Prop :=
  t.slu.session = .opened
    { id := id, station := s.mdu.station, phase := s.mdu.phase,
      opened :=
        if s.clock.valid then { day := s.clock.day, second := s.clock.second, valid := true }
        else { day := 0, second := 0, valid := false },
      minIns := none, flags := t.flu.flags } none ∧
  t.emt.active = true

/-- R143, R146: the end of an OPEN session with a reason: its record waits in ENDED while the closing buffer is
occupied, and takes the next sequence and goes into the buffer when that is free and a sequence is left. -/
def EndedWith (o : OpenRecord) (reason : EndReason) (s t : State) : Prop :=
  t.slu.session.isOpen = false ∧
  (∀ b, s.slu.buffer = some b →
    ∃ o' closed, t.slu.session = .ended o' reason closed ∧ o'.id = o.id ∧ o'.opened = o.opened) ∧
  (s.slu.buffer = none → newestSeq s.slu.table < 4294967295 →
    ∃ b, t.slu.buffer = some b ∧ b.record.id = o.id ∧ b.record.reason = reason ∧
      b.record.seq = newestSeq s.slu.table + 1)

/-- R96, R99, R29: the sequencer leaves OFF for WAITING with one draw: the prompt delay for a PENDING session without
clearance, and interval plus spread otherwise. -/
def LeavesOff (s t : State) : Prop :=
  t.pbi.random = (s.pbi.random * 25173 + 13849) % 65536 ∧
  t.imon.seq = .waiting
    (if s.slu.session.isPending = true ∧ s.imon.clearance = false then t.pbi.random % 1001 * 1000
    else (s.mdu.cfg.interval + t.pbi.random % (s.mdu.cfg.interval / 8 + 1)) * 1000000)

/-- Section 7.2: the demand interval length L, minutes, of a configuration code. -/
abbrev DemandMinutes (code minutes : Nat) : Prop :=
  (code = 0 ∧ minutes = 1) ∨ (code = 1 ∧ minutes = 5) ∨ (code = 2 ∧ minutes = 15)

/-- R130: the peak after an interval has ended with a demand. -/
def PeakAfter (peak : Option Peak) (i : Interval) (watts : Nat) (peak' : Option Peak) : Prop :=
  match peak with
  | none => peak' = if 0 < watts then some { watts := watts, start := i.start, basis := i.basis } else none
  | some p =>
    peak' = if p.watts < watts then some { watts := watts, start := i.start, basis := i.basis } else some p

/-- R125, R128: an interval aligned to the clock: its end is the smallest multiple of `len` above the second of day,
86400 written as 0. -/
def AlignedTo (len second : Nat) (i : Interval) : Prop :=
  (∃ e, second < e ∧ e ≤ second + len ∧ e % len = 0 ∧ i.finish = e % 86400) ∧ i.start = second / 60 ∧ i.basis = .day

/-- R125: the first interval of a session, from the local clock at its opening. -/
def FirstInterval (len : Nat) (c : Clock) (i : Interval) : Prop :=
  if c.valid = true then AlignedTo len c.second i
  else i.finish = (c.second + len) % 86400 ∧ i.start = 0 ∧ i.basis = .opening

/-- R113: the three counters after a classified value. -/
def CountersAfter (faultK warnK r : Nat) (m m' : Monitor) : Prop :=
  m'.belowFault = (if r < faultK then min (m.belowFault + 1) 255 else 0) ∧
  m'.belowWarn = (if r < faultK ∨ r < warnK then min (m.belowWarn + 1) 255 else 0) ∧
  m'.aboveWarn = (if r < faultK ∨ r < warnK then 0 else min (m.aboveWarn + 1) 255)

/-- R114, R115: the insulation state after a classification, from the state before it, the counters after it and
whether the session is IDLE. -/
def InsulationAfter (before : Insulation) (idle : Bool) (confirm : Nat) (m' : Monitor) : Prop :=
  match before with
  | .unknown =>
    m'.insulation =
      if confirm ≤ m'.belowFault then .fault else if 1 ≤ m'.aboveWarn then .good
      else if confirm ≤ m'.belowWarn then .warning else .unknown
  | .good =>
    m'.insulation =
      if confirm ≤ m'.belowFault then .fault else if confirm ≤ m'.belowWarn then .warning else .good
  | .warning =>
    m'.insulation =
      if confirm ≤ m'.belowFault then .fault else if confirm ≤ m'.aboveWarn then .good else .warning
  | .fault => m'.insulation = if confirm ≤ m'.aboveWarn ∧ idle = true then .good else .fault

/-- R75: the set S of a view: the module parts on a phase, each with whether its entry is FRESH (R38). -/
def sharers (phase : Nat) (view : List Entry) : List (Bool × ModulePart) :=
  view.filterMap fun e =>
    match e.role, e.part with
    | .module, some p => if p.phase = some phase then some (decide (e.age < 3), p) else none
    | _, _ => none

/-- R76 to R79: the claim after a computation over the set S with no zeroing condition, from the pool P and the own
claim and wanting flag before it: the ramp or the give-back with headroom, the overcommit shed without, each within
the demand, Cmax and the pool. -/
def ClaimAfter (set : List (Bool × ModulePart)) (pool ramp cmax demand claim : Nat) (wanting : Bool) (claim' : Nat) :
    Prop :=
  let fair := pool / (set.length + 1)
  let others := (set.map fun e => e.2.claim).sum
  let want := max 1 ((if wanting then 1 else 0) + set.countP fun e => e.1 && e.2.wanting)
  let above := max 1 ((if fair < claim then 1 else 0) + set.countP fun e => decide (fair < e.2.claim))
  ∃ candidate, claim' = min candidate (min demand (min cmax pool)) ∧
    if others + claim ≤ pool then
      if (∃ e ∈ set, e.1 = true ∧ e.2.wanting = true ∧ e.2.claim < fair) ∧ fair < claim then
        candidate = max fair (claim - ramp)
      else candidate = claim + min ramp ((pool - others - claim) / want)
    else candidate = max (min claim fair) (claim - (others + claim - pool + above - 1) / above)

end Sys2Proof.Machine
end

