-- ==== Sys2Proof/WellFormed.lean ====
section
/-! DEFINITION. When a command is well formed: the data it carries is data the block's surroundings can give
it. An ill-formed command still has a meaning (R2 and R18 limit a code, R33 discards a bad telegram, R167 fails
a bad image). -/

namespace Sys2Proof

/-- Whether some bytes are a telegram that passes the receiver's checks and is of a kind (R32, R33). -/
def passesAs (k : Machine.Kind) (telegram : List Byte) : Bool :=
  match Machine.checkTelegram telegram with
  | some rx => rx.kind == k
  | none => false

/-- Whether a metering input is within the converter's 16 bits (R2). -/
def meteringInRange (x : Int) : Bool := decide (-32768 ≤ x) && decide (x ≤ 32767)

/-- Whether an insulation code is within the converter's range (R18). -/
def insulationInRange (x : Int) : Bool := decide (-2047 ≤ x) && decide (x ≤ 2047)

/-- A well-formed command. -/
def Instr.wellFormed : Instr → Bool
  | .powerOnReset _ _ => true
  | .rstn _ _ => true
  | .imageReadComplete image => image.length == 128
  | .imageReadTimeout => true
  | .markerReadComplete => true
  | .markerReadTimeout => true
  | .meteringSample v i _ => meteringInRange v && meteringInRange i
  | .lossCountReached => true
  | .rmsWindowComplete => true
  | .scanStart => true
  | .scanComplete _ _ _ _ _ _ _ _ => true
  | .insulationSample code => insulationInRange code
  | .busIdle => true
  | .attemptStart => true
  | .collision => true
  | .attemptSuccess => true
  | .holdoffRunsOut => true
  | .telegramDiscarded => true
  | .beaconArrival t => passesAs .beacon t
  | .contractArrival t => passesAs .contract t
  | .haltArrival t => passesAs .halt t
  | .injectIntentArrival t => passesAs .injectIntent t
  | .isoResultArrival t => passesAs .isoResult t
  | .logReadArrival t => passesAs .logRead t
  | .logRecordArrival t => passesAs .logRecord t
  | .flagClearArrival t => passesAs .flagClear t
  | .ownBeaconPeriod _ => true
  | .contractLoss => true
  | .oneSecondAdvance => true
  | .stepBoundary => true
  | .overdrawTimerExpiry => true
  | .intervalTimerExpiry => true
  | .windowTimerExpiry => true
  | .holdoffTimerExpiry => true
  | .peerIntentTimerExpiry => true
  | .pendingTimerExpiry => true
  | .lineLossTimerExpiry => true
  | .storeWriteCompletion _ => true
  | .dormantTimerExpiry => true
  | .telegramStartEvent => true
  | .plugAssertion => true
  | .plugRelease => true
  | .wakeSettlingEnd => true
  | .pwrFailAssertion => true
  | .pwrFailRelease => true
  | .busActivity => true

end Sys2Proof
end

