-- ==== Sys2Proof/Certificates/Slice0/Obligations.lean ====
section
/-! DEFINITION. The statements about the model: what each command does by the rules, and what no command can
break. A command's statement names the parts it changes and says that the rest stays. -/

open Sys2Proof Sys2Proof.Machine

/-! ## Resets and START -/

/-- R176, R166, R29: a power-on reset puts every part at its value of `State.reset`, with the straps as read,
the random sequence seeded from the id strap, and the input pins and the retained store kept; RSTn does the same,
but the local time, time-valid and the phase of the one-second advance are kept. The values of reset are those of
R1, R21, R39, R50, R52, R54, R72, R95, R119, R136, R155, R158 and R165; the straps, the pins and the contents of the
store at reset are not among the clauses: they are the model's choices (logs 5 to 7). So are the clause that the slot
table is empty between a reset and the start scan (log 38), and that the image read and the start scan both begin at the
reset (log 39). -/
def Obligations.Resets : Prop :=
  (∀ (id : BitVec 4) (phase : BitVec 2) (s : State),
    exec (.powerOnReset id phase) s = .next
      { State.reset with
        pins := s.pins, mdu.station := id.toNat, mdu.phase := phase.toNat,
        pbi.random := id.toNat * 4099 + 1, store := s.store, freeIndex := s.freeIndex, pending := s.pending } ∧
    exec (.rstn id phase) s = .next
      { State.reset with
        pins := s.pins, mdu.station := id.toNat, mdu.phase := phase.toNat,
        pbi.random := id.toNat * 4099 + 1, clock := s.clock, store := s.store, freeIndex := s.freeIndex,
        pending := s.pending }) ∧
  State.reset.mdu.mode = .start ∧ State.reset.mdu.beaconTimer = none ∧ State.reset.mdu.listening = 0 ∧
  State.reset.mdu.dormantTimer = .stopped ∧ State.reset.mdu.heldPwrFail = false ∧
  State.reset.mfe.line = .absent ∧ State.reset.mfe.urms = 0 ∧ State.reset.mfe.irms = 0 ∧
  State.reset.mfe.refCount = 0 ∧ State.reset.mfe.tAcc = none ∧ State.reset.mfe.vPrev = none ∧
  State.reset.pbi.intent = none ∧ State.reset.pbi.result = none ∧ State.reset.pbi.beacon = none ∧
  State.reset.pbi.logReply = none ∧ State.reset.pbi.holdoff = none ∧ State.reset.pbi.quiet = 0 ∧
  State.reset.pvt.view = [] ∧ State.reset.pvt.record = none ∧ State.reset.pvt.halted = 0 ∧
  State.reset.clock.day = 0 ∧ State.reset.clock.second = 0 ∧ State.reset.clock.valid = false ∧
  State.reset.clock.toAdvance = 1000000 ∧ State.reset.thu.heater = .off ∧ State.reset.thu.idcCap = 0 ∧
  State.reset.thu.inForce = 0 ∧ State.reset.thu.htr = false ∧ State.reset.she.claim = 0 ∧
  State.reset.she.claimTx = 0 ∧ State.reset.she.drawn = 0 ∧ State.reset.she.chgEn = false ∧
  State.reset.she.iRef = 0 ∧ State.reset.she.hold = false ∧ State.reset.imon.seq = .off ∧
  State.reset.imon.insulation = .unknown ∧ State.reset.imon.clearance = false ∧
  State.reset.imon.intentSeq = 0 ∧ State.reset.imon.noResponse = 0 ∧ State.reset.imon.isoSw = .opened ∧
  State.reset.emt.active = false ∧ State.reset.emt.acc = 0 ∧ State.reset.emt.peak = none ∧
  State.reset.slu.session = .idle ∧ State.reset.slu.buffer = none ∧
  State.reset.slu.table = List.replicate 16 none ∧ State.reset.flu.flags = 0 ∧
  State.reset.flu.alert = false ∧ State.reset.pending = []

/-- R166, R118, R157, R158, R169, R171: a passed image that completes START after the start scan makes the mode
LISTENING with the image's fields in force, Qraw formed, and the converters, the bus and the beacon timer
started. Held PWR_FAIL is examined then (R171): with the input active the mode becomes POWER_HOLD at once, with it
inactive the assertion is dropped. (No session is OPEN outside RUN: `SessionKept`.) -/
def Obligations.PassedImageEndsStart : Prop :=
  ∀ (image : List Byte) (s : State),
    s.mdu.mode = .start → (∃ left, s.mdu.image = .reading left) → s.mdu.scan = .done →
    (s.mdu.heldPwrFail = true → s.slu.session.isOpen = false) → imageCheck image s.mdu.phase ≠ none →
    ∃ t, exec (.imageReadComplete image) s = .next t ∧
      t.mdu.mode = (if s.mdu.heldPwrFail = true ∧ s.pins.pwrFail = true then .powerHold else .listening) ∧
      t.mdu.heldPwrFail = false ∧
      t.mdu.cfg = imageFields image ∧ t.mdu.listening = 0 ∧
      t.mdu.beaconTimer = some (64000 * 2 ^ (imageFields image).beaconCode) ∧
      t.emt.qraw = (2 * (900000000000 * 32768) + (imageFields image).gain) / (2 * (imageFields image).gain) ∧
      t.mfe.count = 0 ∧ t.mfe.line = .absent ∧ t.mfe.scanning = true ∧ t.thu.stepTimer = some 62500 ∧
      t.pbi = PeerBus.start s.pbi.random ∧ t.flu.flags = s.flu.flags ∧
      t.flu.alert = (s.flu.flags &&& ~~~ (imageFields image).alertMask != 0) ∧ t.clock = s.clock ∧
      t.store = s.store ∧ t.slu.table = s.slu.table

/-- R166, R167, R168, R157, R158, R169: a failed image check, or an image read that times out, after the start scan
latches CONFIG and makes the mode CONFIG_HOLD, with the 128 ms beacon period and ALERT asserted. That the timeout acts
once time has passed since the read began, whatever time is left, is the model's choice (log 2). -/
def Obligations.FailedImageEndsStart : Prop :=
  ∀ (c : Instr) (s : State),
    s.mdu.mode = .start → (∃ left, s.mdu.image = .reading left) → s.mdu.scan = .done →
    ((c = .imageReadTimeout ∧ ∀ left, s.mdu.image = .reading left → left < 50000) ∨
      ∃ image, c = .imageReadComplete image ∧ imageCheck image s.mdu.phase = none) →
    ∃ t, exec c s = .next t ∧ t.mdu.mode = .configHold ∧ t.flu.flags = s.flu.flags ||| 0x100#12 ∧
      t.flu.alert = true ∧ t.mdu.beaconTimer = some 128000 ∧ t.mdu.heldPwrFail = false ∧
      t.mdu.cfg = s.mdu.cfg ∧ t.imon.seq = .off ∧ t.clock = s.clock ∧ t.store = s.store ∧
      t.slu.table = s.slu.table

/-- R167, R180, section 10.3: an image that passes meets the format, checksum, range and ordering tests, and its
curve's temperatures ascend strictly. That an image of other than 128 bytes fails is the model's choice (log 19). -/
def Obligations.ImageCheckSound : Prop :=
  ∀ (image : List Byte) (phase : Nat) (cfg : ImageConfig),
    imageCheck image phase = some cfg →
      image.length = 128 ∧ (image.getD 0 0).toNat = 1 ∧ (image.map BitVec.toNat).sum % 256 = 0 ∧
      (image.getD 4 0).toNat ≤ 3 ∧ phase ≠ 0 ∧ cfg.tOn < cfg.tOff ∧ cfg.faultK < cfg.warnK ∧
      2 * cfg.crop ≤ 125 * 2 ^ cfg.phaseCode ∧ cfg.beaconCode ≤ 3 ∧
      10 ≤ cfg.dormantTimeout ∧ cfg.dormantTimeout ≤ 600 ∧ 10 ≤ cfg.cmax ∧ cfg.cmax ≤ 400 ∧
      10 ≤ cfg.imaxDc ∧ cfg.imaxDc ≤ 400 ∧ cfg.margin ≤ 50 ∧ 5 ≤ cfg.ramp ∧ cfg.ramp ≤ 100 ∧
      800 ≤ cfg.yield ∧ cfg.yield ≤ 990 ∧ 2000 ≤ cfg.umax ∧ cfg.umax ≤ 5000 ∧ 10 ≤ cfg.band ∧ cfg.band ≤ 200 ∧
      100 ≤ cfg.rh ∧ cfg.rh ≤ 2000 ∧ -500 ≤ cfg.tOn ∧ cfg.tOff ≤ 1499 ∧ -500 ≤ cfg.thMax ∧ cfg.thMax ≤ 1499 ∧
      5000 ≤ cfg.uinj ∧ cfg.uinj ≤ 30000 ∧ 100 ≤ cfg.rc ∧ cfg.rc ≤ 1000 ∧ 1 ≤ cfg.rm ∧ cfg.rm ≤ 50 ∧
      cfg.phaseCode ≤ 3 ∧ cfg.crop ≤ 500 ∧ cfg.warnK ≤ 5000 ∧ 10 ≤ cfg.faultK ∧ cfg.confirmCode ≤ 2 ∧
      10 ≤ cfg.interval ∧ cfg.interval ≤ 600 ∧ 29491 ≤ cfg.gain ∧ cfg.gain ≤ 36044 ∧ cfg.demandCode ≤ 2 ∧
      2 ≤ cfg.curve.length ∧ cfg.curve.length ≤ 16 ∧ cfg.curve.Pairwise (fun p q => p.1 < q.1) ∧
      ∀ p ∈ cfg.curve, -500 ≤ p.1 ∧ p.1 ≤ 1499 ∧ p.2 ≤ 400

/-- R148, R178, R166, R171: in START a marker read enters the slot the scan stands at by its marker, a marker read that
times out enters it as empty, and the scan moves to the next slot with 1 ms; nothing else changes. The last slot's
read ends the scan, and START with it when the image check has completed: in CONFIG_HOLD after a failure, in LISTENING
after a pass, or in POWER_HOLD with a held PWR_FAIL whose input is still active; while the image is being read START
goes on. That the timeout acts once time has passed since the read
began, whatever time is left, is the model's choice (log 2), and so is that a read which the store reports as failed,
given by the same command (log 35), is reported once time has passed since it began (log 40). -/
def Obligations.MarkerReads : Prop :=
  (∀ (slot : Fin 16) (left : Nat) (s : State),
    s.mdu.mode = .start → s.mdu.scan = .reading slot left → slot.val < 15 →
      exec .markerReadComplete s = .next
        { s with
          slu.table := s.slu.table.set slot.val
            (if readByte s.store (48 * slot.val + 47) = 0x5A then
              some ((readByte s.store (48 * slot.val)).toNat * 16777216 +
                (readByte s.store (48 * slot.val + 1)).toNat * 65536 +
                (readByte s.store (48 * slot.val + 2)).toNat * 256 +
                (readByte s.store (48 * slot.val + 3)).toNat)
            else none),
          mdu.scan := .reading (slot + 1) 1000 } ∧
      (left < 1000 → exec .markerReadTimeout s = .next
        { s with slu.table := s.slu.table.set slot.val none, mdu.scan := .reading (slot + 1) 1000 })) ∧
  ∀ (c : Instr) (left : Nat) (s : State),
    s.mdu.mode = .start → s.mdu.scan = .reading 15 left →
    (s.mdu.heldPwrFail = true → s.slu.session.isOpen = false) →
    c = .markerReadComplete ∨ (c = .markerReadTimeout ∧ left < 1000) →
    ∃ t, exec c s = .next t ∧ t.mdu.scan = .done ∧ t.store = s.store ∧ t.clock = s.clock ∧
      t.slu.table = s.slu.table.set 15
        (if c = .markerReadComplete ∧ readByte s.store 767 = 0x5A then
          some ((readByte s.store 720).toNat * 16777216 + (readByte s.store 721).toNat * 65536 +
            (readByte s.store 722).toNat * 256 + (readByte s.store 723).toNat)
        else none) ∧
      match s.mdu.image with
      | .reading _ => t.mdu.mode = .start ∧ t.flu = s.flu
      | .failed => t.mdu.mode = .configHold ∧ t.mdu.heldPwrFail = false ∧ t.mdu.beaconTimer = some 128000
      | .passed cfg =>
        t.mdu.mode = (if s.mdu.heldPwrFail = true ∧ s.pins.pwrFail = true then .powerHold else .listening) ∧
        t.mdu.heldPwrFail = false ∧ t.mdu.cfg = cfg ∧
        t.mdu.beaconTimer = some (64000 * 2 ^ cfg.beaconCode)

/-! ## Measurement front end -/

/-- R2, R3, R9, R10, R11: a sample that carries no positive-going crossing, or one less than 5000 µs after the last
accepted crossing, which is ignored, changes only the sums and counts while the meter is idle. Outside ABSENT, while
it does not end the loss interval, it joins the running sums and raises the loss count. In ABSENT it joins the window,
and as its 400th sample publishes the window's values, itself included, with n = 400. An input beyond the converter's
range acts as the nearest end code, whatever the sample does. -/
def Obligations.SampleWithoutCrossing : Prop :=
  (∀ (v i : Int) (meterFirst : Bool) (s : State),
    exec (.meteringSample v i meterFirst) s =
      exec (.meteringSample (max (-32768) (min 32767 v)) (max (-32768) (min 32767 i)) meterFirst) s) ∧
  ∀ (v i : Int) (meterFirst : Bool) (s : State),
    s.mdu.mode.runs = true → s.emt.active = false →
    -32768 ≤ v → v ≤ 32767 → -32768 ≤ i → i ≤ 32767 →
    (v < 0 ∨ (∀ w, s.mfe.vPrev = some w → 0 ≤ w) ∨
      ∃ w old, s.mfe.vPrev = some w ∧ s.mfe.tAcc = some old ∧
        250 * s.mfe.count + ((250 * -w) / (v - w)).toNat < old + 5000) →
    (s.mfe.line ≠ .absent → s.mfe.loss + 1 < 400 →
      exec (.meteringSample v i meterFirst) s = .next
        { s with
          mfe.sumV2 := s.mfe.sumV2 + v.natAbs ^ 2, mfe.sumI2 := s.mfe.sumI2 + i.natAbs ^ 2,
          mfe.n := s.mfe.n + 1, mfe.loss := s.mfe.loss + 1, mfe.vPrev := some v,
          mfe.count := s.mfe.count + 1 }) ∧
    (s.mfe.line = .absent → s.mfe.n + 1 < 400 →
      exec (.meteringSample v i meterFirst) s = .next
        { s with
          mfe.sumV2 := s.mfe.sumV2 + v.natAbs ^ 2, mfe.sumI2 := s.mfe.sumI2 + i.natAbs ^ 2,
          mfe.n := s.mfe.n + 1, mfe.vPrev := some v, mfe.count := s.mfe.count + 1 }) ∧
    (s.mfe.line = .absent → s.mfe.n + 1 = 400 →
      exec (.meteringSample v i meterFirst) s = .next
        { s with
          mfe.urms := isqrt ((s.mfe.sumV2 + v.natAbs ^ 2) * 256 / (10000 * 400)),
          mfe.irms := isqrt ((s.mfe.sumI2 + i.natAbs ^ 2) / (10000 * 400)),
          mfe.sumV2 := 0, mfe.sumI2 := 0, mfe.n := 0, mfe.vPrev := some v, mfe.count := s.mfe.count + 1 })

/-- R3, R4, R6, R7, R8, R10, R89, R92: a crossing 5000 µs or more after the last accepted one closes the cycle. Its time
is interpolated, the cycle's Urms and Irms are published, the new sums hold the crossing's own sample, and the
line state and its counters follow the cycle's two verdicts. The cycle's Irms is held against the overdraw limit formed
from D: within it the overdraw condition and the overdraw timer end, above it the timer starts or runs on in RUN while
the condition does not hold. That D is read after the change of line state has been reported is the model's reading
(log 37). The first accepted crossing, which no other precedes,
makes an ABSENT line SETTLING with the three counters 0, discards the window and closes no cycle; while the meter is
idle nothing else changes. -/
def Obligations.CrossingClosesCycle : Prop :=
  (∀ (v i w : Int) (old : Nat) (meterFirst : Bool) (s : State),
    s.mdu.mode.runs = true → s.mfe.vPrev = some w → w < 0 → 0 ≤ v → v ≤ 32767 → -32768 ≤ i → i ≤ 32767 →
    s.mfe.tAcc = some old → old + 5000 ≤ 250 * s.mfe.count + ((250 * -w) / (v - w)).toNat →
    ∃ t, exec (.meteringSample v i meterFirst) s = .next t ∧
      t.mfe.tAcc = some (250 * s.mfe.count + ((250 * -w) / (v - w)).toNat) ∧ t.mfe.loss = 0 ∧
      t.mfe.vPrev = some v ∧ t.mfe.count = s.mfe.count + 1 ∧
      t.mfe.urms = isqrt (s.mfe.sumV2 * 256 / (10000 * s.mfe.n)) ∧
      t.mfe.irms = isqrt (s.mfe.sumI2 / (10000 * s.mfe.n)) ∧
      t.mfe.sumV2 = v.natAbs ^ 2 ∧ t.mfe.sumI2 = i.natAbs ^ 2 ∧ t.mfe.n = 1 ∧
      LineAfter s.mfe.line s.mfe.settle s.mfe.badPeriod s.mfe.badUrms
        (250 * s.mfe.count + ((250 * -w) / (v - w)).toNat - old)
        (isqrt (s.mfe.sumV2 * 256 / (10000 * s.mfe.n)))
        t.mfe.line t.mfe.settle t.mfe.badPeriod t.mfe.badUrms ∧
      (s.mfe.line = .good → t.mfe.line = .fault → t.latched .line = true) ∧
      t.she.overdraw = (s.she.overdraw && decide (t.she.drawn + t.she.drawn / 10 + 5 < t.mfe.irms)) ∧
      (t.mfe.irms ≤ t.she.drawn + t.she.drawn / 10 + 5 →
        t.she.overdrawTimer = if s.she.overdraw = true ∨ s.mdu.mode = .run then none else s.she.overdrawTimer) ∧
      (t.she.drawn + t.she.drawn / 10 + 5 < t.mfe.irms →
        t.she.overdrawTimer =
          if s.she.overdraw = false ∧ s.mdu.mode = .run then some (s.she.overdrawTimer.getD 1000000)
          else s.she.overdrawTimer) ∧
      t.mfe.record = s.mfe.record ∧ t.store = s.store ∧ t.pvt = s.pvt ∧ t.clock = s.clock ∧ t.pins = s.pins) ∧
  ∀ (v i w : Int) (meterFirst : Bool) (s : State),
    s.mdu.mode.runs = true → s.emt.active = false → s.mfe.vPrev = some w → w < 0 → 0 ≤ v → v ≤ 32767 → -32768 ≤ i →
    i ≤ 32767 → s.mfe.line = .absent → s.mfe.tAcc = none →
      exec (.meteringSample v i meterFirst) s = .next
        { s with
          mfe.line := .settling, mfe.settle := 0, mfe.badPeriod := 0, mfe.badUrms := 0,
          mfe.tAcc := some (250 * s.mfe.count + ((250 * -w) / (v - w)).toNat), mfe.loss := 0,
          mfe.sumV2 := v.natAbs ^ 2, mfe.sumI2 := i.natAbs ^ 2, mfe.n := 1, mfe.vPrev := some v,
          mfe.count := s.mfe.count + 1 }

/-- R9, R74, R79, R142: the loss count reached in SETTLING, GOOD or FAULT makes the line ABSENT, with the three
counters 0, t_acc forgotten and the sums discarded; leaving GOOD makes the demand and the claim 0 and starts the
line-loss timer of an OPEN session. The 400th sample without an accepted crossing does the same. That the command of
the loss event acts whatever the count is the model's reading (log 13). -/
def Obligations.LineLost : Prop :=
  ∀ (c : Instr) (s : State),
    s.mdu.mode.runs = true → s.mfe.line ≠ .absent →
    (c = .lossCountReached ∨
      ∃ v i b, c = .meteringSample v i b ∧ v < 0 ∧ s.mfe.loss = 399 ∧ s.emt.active = false) →
    ∃ t, exec c s = .next t ∧ t.mfe.line = .absent ∧ t.mfe.settle = 0 ∧ t.mfe.badPeriod = 0 ∧
      t.mfe.badUrms = 0 ∧ t.mfe.tAcc = none ∧ t.mfe.sumV2 = 0 ∧ t.mfe.sumI2 = 0 ∧ t.mfe.n = 0 ∧
      t.mfe.urms = s.mfe.urms ∧ t.mfe.irms = s.mfe.irms ∧ t.flu = s.flu ∧ t.she.overdrawTimer = none ∧
      t.she.overdraw = false ∧
      (s.mfe.line = .good → t.she.demand = 0 ∧ t.she.claim = 0 ∧
        ∀ r tm, s.slu.session = .opened r tm → t.slu.session = .opened r (some 30000000)) ∧
      t.mdu = s.mdu ∧ t.pbi = s.pbi ∧ t.pvt = s.pvt ∧ t.imon = s.imon ∧ t.store = s.store

/-- R11, and section 4.2 of the introduction: in ABSENT a completed window's values are published with n = 400 and the
next window begins; nothing else changes. The root of the formulas is the greatest integer whose square does not
exceed the argument. That the command acts whatever the count of samples is the model's reading (log 13). -/
def Obligations.RmsWindow : Prop :=
  (∀ x : Nat, isqrt x * isqrt x ≤ x ∧ x < (isqrt x + 1) * (isqrt x + 1)) ∧
  ∀ s : State, s.mdu.mode.runs = true → s.mfe.line = .absent → 0 < s.mfe.n →
    exec .rmsWindowComplete s = .next
      { s with
        mfe.urms := isqrt (s.mfe.sumV2 * 256 / (10000 * 400)), mfe.irms := isqrt (s.mfe.sumI2 / (10000 * 400)),
        mfe.sumV2 := 0, mfe.sumI2 := 0, mfe.n := 0 }

/-- R12, R13, R14, R15, R16, R141, R156: a scan complete publishes floor(code·5/4) as Ustr and each channel's filtered value,
shifts or empties each filter history, and counts a REF code out of tolerance; the second in a row latches FRONTEND,
and outside CONFIG_HOLD that latch ends an OPEN session with reason FRONTEND_FAULT.
The hypothesis on the dormant timer excludes an entry into DORMANT at the same scan (R173). That the command needs no
scan start is the model's choice (log 14). -/
def Obligations.ScanPublishes : Prop :=
  ∀ (ustr t1 t2 t3 t4 th ref : BitVec 12) (meterFirst : Bool) (s : State),
    s.mdu.mode.runs = true → s.mdu.dormantTimer ≠ .expired →
    ∃ t, exec (.scanComplete ustr t1 t2 t3 t4 th ref meterFirst) s = .next t ∧
      t.mfe.record.ustr = some (ustr.toNat * 5 / 4) ∧
      ChannelAfter t1 s.mfe.history.t1 t.mfe.record.temps.t1 t.mfe.history.t1 ∧
      ChannelAfter t2 s.mfe.history.t2 t.mfe.record.temps.t2 t.mfe.history.t2 ∧
      ChannelAfter t3 s.mfe.history.t3 t.mfe.record.temps.t3 t.mfe.history.t3 ∧
      ChannelAfter t4 s.mfe.history.t4 t.mfe.record.temps.t4 t.mfe.history.t4 ∧
      ChannelAfter th s.mfe.history.th t.mfe.record.temps.th t.mfe.history.th ∧
      t.mfe.refCount = (if 2007 ≤ ref.toNat ∧ ref.toNat ≤ 2089 then 0 else min (s.mfe.refCount + 1) 2) ∧
      (s.mfe.refCount = 1 → (ref.toNat < 2007 ∨ 2089 < ref.toNat) →
        t.latched .frontEnd = true ∧
        ∀ o left, s.slu.session = .opened o left → s.latched .frontEnd = false → s.mdu.mode ≠ .configHold →
          EndedWith o .frontEndFault s t) ∧
      t.mfe.scanning = false ∧ t.mfe.line = s.mfe.line ∧ t.mfe.urms = s.mfe.urms ∧ t.mdu = s.mdu ∧
      t.pvt = s.pvt ∧ t.clock = s.clock ∧ t.pins = s.pins

/-! ## Thermal unit -/

/-- R58: on a curve with strictly ascending temperatures, below the first point its cap, above the last point the
last cap, at a point that point's cap, and from one point up to the next the floor of the exact value of the straight
line between them, which stays between the two caps. -/
def Obligations.DeratingCurve : Prop :=
  ∀ (points : List (Int × Nat)) (temp : Int), points.Pairwise (fun p q => p.1 < q.1) →
    (∀ p rest, points = p :: rest → temp < p.1 → curveAt points temp = p.2) ∧
    (∀ front p, points = front ++ [p] → p.1 ≤ temp → curveAt points temp = p.2) ∧
    (∀ p ∈ points, curveAt points p.1 = p.2) ∧
    (∀ front p q rest, points = front ++ p :: q :: rest → p.1 ≤ temp → temp < q.1 →
      (curveAt points temp : Int) =
        ((p.2 : Int) * (q.1 - p.1) + ((q.2 : Int) - p.2) * (temp - p.1)) / (q.1 - p.1) ∧
      min p.2 q.2 ≤ curveAt points temp ∧ curveAt points temp ≤ max p.2 q.2)

/-- R54 to R56, R59 to R68, R73, R74, R85 to R88, R141: what a scan complete leaves. In the thermal unit: the valid cells,
Tmin, Tmax and the sensor condition, at whose beginning THERM_SENSOR is latched and, outside CONFIG_HOLD, an OPEN session
ends with reason THERMAL_FAULT unless the same scan has ended it by a latch of FRONTEND; in CONFIG_HOLD the heater state, the caps, the duty request and the powers at 0
with HTR open, and HEATER_HOT as it was; outside it the taper cap by the string voltage, cap_T 0 with the condition and
the lesser curve value otherwise, Idc_cap the least of the three, duty_req by Tmin in RUN, OPEN and HEAT_ON and 0
otherwise, the two powers, and the heater state by TH, Tmin and the sensor condition, an entry into HEAT_LOCKOUT leaving
HEATER_HOT latched. In the share engine: the demand, and the setpoint conversion with CHG_EN, the current reference and
the duty in force. The hypothesis on the dormant timer excludes an entry into DORMANT at the same scan (R173). -/
def Obligations.ThermalUpdate : Prop :=
  ∀ (ustr t1 t2 t3 t4 th ref : BitVec 12) (meterFirst : Bool) (s : State),
    s.mdu.mode.runs = true → s.mdu.dormantTimer ≠ .expired →
    ∃ t, exec (.scanComplete ustr t1 t2 t3 t4 th ref meterFirst) s = .next t ∧ t.mdu = s.mdu ∧
      t.thu.validCount = [t.mfe.record.temps.t1, t.mfe.record.temps.t2, t.mfe.record.temps.t3,
        t.mfe.record.temps.t4].countP Option.isSome ∧
      (∀ a, t.thu.tmin = some a ↔
        some a ∈ [t.mfe.record.temps.t1, t.mfe.record.temps.t2, t.mfe.record.temps.t3, t.mfe.record.temps.t4] ∧
        ∀ b, some b ∈ [t.mfe.record.temps.t1, t.mfe.record.temps.t2, t.mfe.record.temps.t3,
          t.mfe.record.temps.t4] → a ≤ b) ∧
      (∀ a, t.thu.tmax = some a ↔
        some a ∈ [t.mfe.record.temps.t1, t.mfe.record.temps.t2, t.mfe.record.temps.t3, t.mfe.record.temps.t4] ∧
        ∀ b, some b ∈ [t.mfe.record.temps.t1, t.mfe.record.temps.t2, t.mfe.record.temps.t3,
          t.mfe.record.temps.t4] → b ≤ a) ∧
      t.thu.sensorFault = decide (t.thu.validCount < 2) ∧
      (s.thu.sensorFault = false → t.thu.sensorFault = true →
        t.latched .thermSensor = true ∧
        (s.mdu.mode ≠ .configHold → t.slu.session.isOpen = false ∧
          ∀ o left, s.slu.session = .opened o left → (t.latched .frontEnd = true → s.latched .frontEnd = true) →
            EndedWith o .thermalFault s t)) ∧
      (s.mdu.mode = .configHold →
        t.thu.heater = .off ∧ t.thu.capT = 0 ∧ t.thu.taper = 0 ∧ t.thu.idcCap = 0 ∧ t.thu.dutyReq = 0 ∧
        t.thu.phFull = 0 ∧ t.thu.phReq = 0 ∧ t.thu.htr = false ∧ t.latched .heaterHot = s.latched .heaterHot) ∧
      (s.mdu.mode ≠ .configHold →
        t.thu.taper =
          (if s.mdu.cfg.umax ≤ ustr.toNat * 5 / 4 then 0
          else if ustr.toNat * 5 / 4 + s.mdu.cfg.band ≤ s.mdu.cfg.umax then s.mdu.cfg.imaxDc
          else s.mdu.cfg.imaxDc * (s.mdu.cfg.umax - ustr.toNat * 5 / 4) / s.mdu.cfg.band) ∧
        (t.thu.sensorFault = true → t.thu.capT = 0) ∧
        (∀ a b, t.thu.sensorFault = false → t.thu.tmin = some a → t.thu.tmax = some b →
          t.thu.capT = min (curveAt s.mdu.cfg.curve a) (curveAt s.mdu.cfg.curve b)) ∧
        t.thu.idcCap = min t.thu.capT (min t.thu.taper s.mdu.cfg.imaxDc) ∧
        (¬ (t.mdu.mode = .run ∧ t.slu.session.isOpen = true ∧ t.thu.heater = .on) → t.thu.dutyReq = 0) ∧
        (∀ a, t.mdu.mode = .run → t.slu.session.isOpen = true → t.thu.heater = .on → t.thu.tmin = some a →
          (a ≤ s.mdu.cfg.tOn → t.thu.dutyReq = 16) ∧
          (s.mdu.cfg.tOn < a → a < s.mdu.cfg.tOff →
            (t.thu.dutyReq : Int) =
              (16 * (s.mdu.cfg.tOff - a) + (s.mdu.cfg.tOff - s.mdu.cfg.tOn) - 1) /
                (s.mdu.cfg.tOff - s.mdu.cfg.tOn))) ∧
        t.thu.phFull = (ustr.toNat * 5 / 4) * (ustr.toNat * 5 / 4) / (10 * s.mdu.cfg.rh) ∧
        t.thu.phReq = t.thu.dutyReq * t.thu.phFull / 16 ∧
        ((t.mfe.record.temps.th = none ∨ ∃ x, t.mfe.record.temps.th = some x ∧ s.mdu.cfg.thMax < x) →
          t.thu.heater = .lockout ∧ (s.thu.heater ≠ .lockout → t.latched .heaterHot = true)) ∧
        (∀ x, t.mfe.record.temps.th = some x → x ≤ s.mdu.cfg.thMax →
          (s.thu.heater = .lockout →
            t.thu.heater = if x ≤ s.mdu.cfg.thMax - 100 then .off else .lockout) ∧
          (s.thu.heater ≠ .lockout → t.thu.sensorFault = true → t.thu.heater = .off) ∧
          (∀ a, s.thu.heater = .off → t.thu.sensorFault = false → t.thu.tmin = some a →
            t.thu.heater = if a < s.mdu.cfg.tOn then .on else .off) ∧
          (∀ a, s.thu.heater = .on → t.thu.sensorFault = false → t.thu.tmin = some a →
            t.thu.heater = if s.mdu.cfg.tOff ≤ a then .off else .on))) ∧
      t.she.demand =
        (if t.slu.session.isOpen = true ∧ s.mdu.mode = .run ∧ s.mfe.line = .good ∧ 1000 ≤ ustr.toNat * 5 / 4 then
          ceilDiv
            (ceilDiv ((t.thu.idcCap * (ustr.toNat * 5 / 4) / 100 + t.thu.phReq) * 1000) s.mdu.cfg.yield * 100)
            (max s.mfe.urms 1800)
        else 0) ∧
      t.she.wanting = decide (t.she.claim < t.she.demand) ∧
      t.she.pInAvail = t.she.drawn * s.mfe.urms / 100 ∧ t.she.pDcAvail = t.she.pInAvail * s.mdu.cfg.yield / 1000 ∧
      t.she.dutyApplied =
        (if t.thu.phFull = 0 then 0 else min t.thu.dutyReq (t.she.pDcAvail * 16 / t.thu.phFull)) ∧
      t.she.phApplied = t.she.dutyApplied * t.thu.phFull / 16 ∧
      t.she.idcSet =
        (if t.she.hold = true ∨ ustr.toNat * 5 / 4 < 1000 then 0
        else min t.thu.idcCap ((t.she.pDcAvail - t.she.phApplied) * 100 / (ustr.toNat * 5 / 4))) ∧
      t.she.chgEn = decide (0 < t.she.idcSet) ∧ t.she.iRef = t.she.idcSet ∧
      t.thu.inForce =
        (if t.thu.heater = .on ∧ t.slu.session.isOpen = true ∧ s.mdu.mode = .run then t.she.dutyApplied else 0)

/-- R12, R69: a scan start begins a scan and the 10 ms to the next; a step boundary takes the next of the 16 step
indices, begins the 62.5 ms to the next, and closes HTR exactly when the index is below the duty in force. Nothing
else changes. That the command acts whatever time is left is the model's choice (log 2). -/
def Obligations.PeriodsBegin : Prop :=
  ∀ s : State, s.mdu.mode.runs = true →
    exec .scanStart s = .next { s with mfe.scanning := true, mfe.scanTimer := some 10000 } ∧
    exec .stepBoundary s = .next
      { s with
        thu.step := (s.thu.step + 1) % 16, thu.stepTimer := some 62500,
        thu.htr := decide ((s.thu.step + 1) % 16 < s.thu.inForce) }

/-! ## Insulation monitor -/

/-- R109: the result from D_sum and the N = n − k kept samples of each phase, with D_sum = S₁ − S₂ − S₃ + S₄. -/
def Obligations.Resistance : Prop :=
  (∀ s : State,
    s.measured = resistance s.mdu.cfg.rm s.mdu.cfg.uinj s.mdu.cfg.rc
      (125 * 2 ^ s.mdu.cfg.phaseCode - s.mdu.cfg.crop)
      (s.imon.sums.s1 - s.imon.sums.s2 - s.imon.sums.s3 + s.imon.sums.s4)) ∧
  ∀ (rm uinj rc kept : Nat) (dSum : Int),
    (dSum ≤ 0 → resistance rm uinj rc kept dSum = (.noResponse, 0)) ∧
    (0 < dSum →
      (((rm * uinj * 4 * kept : Nat) : Int) / dSum - (rc + rm) < 0 →
        resistance rm uinj rc kept dSum = (.valid, 0)) ∧
      (10000 < ((rm * uinj * 4 * kept : Nat) : Int) / dSum - (rc + rm) →
        resistance rm uinj rc kept dSum = (.aboveRange, 10000)) ∧
      (∀ r : Nat, (r : Int) = ((rm * uinj * 4 * kept : Nat) : Int) / dSum - (rc + rm) → r ≤ 10000 →
        resistance rm uinj rc kept dSum = (.valid, r)))

/-- R105, R94, R18: a sample at index k or below is discarded whatever its code, and a later one that is not saturated
is added to its phase's sum. Inside a phase the index rises by 1 and ISO_SW keeps the phase's polarity; the last sample
of phases 1 to 3 begins the next phase at index 0 with its polarity. Nothing else changes but the sampling clock and
the model's own mark of a fresh timer (log 2). -/
def Obligations.InsulationSampleTaken : Prop :=
  ∀ (code : Int) (phase phase' : Phase) (index index' : Nat) (s : State),
    s.imon.seq = .injecting phase index →
    ((index + 1 < 125 * 2 ^ s.mdu.cfg.phaseCode ∧ phase' = phase ∧ index' = index + 1) ∨
      (index + 1 = 125 * 2 ^ s.mdu.cfg.phaseCode ∧ index' = 0 ∧
        ((phase = .p1 ∧ phase' = .p2) ∨ (phase = .p2 ∧ phase' = .p3) ∨ (phase = .p3 ∧ phase' = .p4)))) →
    (index + 1 ≤ s.mdu.cfg.crop ∨ (-2047 < code ∧ code < 2047)) →
      exec (.insulationSample code) s = .next
        { s with
          imon.seq := .injecting phase' index', imon.injecting := true,
          imon.isoSw := if phase' = .p1 ∨ phase' = .p4 then .plus else .minus,
          imon.timerFresh := false, mfe.insClock := some 4000,
          imon.sums :=
            if index + 1 ≤ s.mdu.cfg.crop then s.imon.sums
            else
              { s1 := s.imon.sums.s1 + (if phase = .p1 then code else 0),
                s2 := s.imon.sums.s2 + (if phase = .p2 then code else 0),
                s3 := s.imon.sums.s3 + (if phase = .p3 then code else 0),
                s4 := s.imon.sums.s4 + (if phase = .p4 then code else 0) } }

/-- R106, R107, R101, R108, R24: a saturated kept sample in INJECTING aborts the measurement: ISO_SW opens, sampling
stops, the sums are discarded, INTERFERED is loaded into RESULT with the intent's sequence and the string
voltage (held while an attempt of RESULT runs), and HOLDOFF runs for the next random value mod 8, plus 1, seconds.
Nothing else changes but the model's own mark of a fresh timer (log 2): the counters, the insulation state and the
NO_RESPONSE count stay. -/
def Obligations.SaturatedSampleAborts : Prop :=
  ∀ (code : Int) (phase : Phase) (index volts : Nat) (s : State),
    s.imon.seq = .injecting phase index → s.mdu.cfg.crop < index + 1 → code ≤ -2047 ∨ 2047 ≤ code →
    s.mfe.record.ustr = some volts →
      ∃ fresh, exec (.insulationSample code) s = .next
        { s with
          imon.seq := .holdoff (((s.pbi.random * 25173 + 13849) % 65536 % 8 + 1) * 1000000),
          imon.timerFresh := fresh, imon.injecting := false, imon.isoSw := .opened, imon.sums := ⟨0, 0, 0, 0⟩, mfe.insClock := none,
          pbi.random := (s.pbi.random * 25173 + 13849) % 65536,
          pbi.result :=
            if s.pbi.attempting .result then s.pbi.result
            else some { payload := [BitVec.ofNat 8 s.imon.intentSeq, 2, 0, 0] ++ be16 volts, failed := 0 },
          pbi.heldResult :=
            if s.pbi.attempting .result then
              some ([BitVec.ofNat 8 s.imon.intentSeq, 2, 0, 0] ++ be16 volts)
            else s.pbi.heldResult }

/-- R105, R108, R109, R110, R111, R112 to R115, R99: the last sample of phase 4 completes the measurement: ISO_SW opens and sampling
stops. With a D_sum of 0 or below it counts an own NO_RESPONSE: the first goes on to WAITING with interval and
spread, the second latches INJECTOR and makes the sequencer OFF; both load the result and leave the classification as
it was. With a greater D_sum the result of R109 is classified at once outside CONFIG_HOLD, the NO_RESPONSE count is 0,
the result is loaded, and the sequencer goes on to WAITING. The hypothesis on the dormant timer excludes an entry into DORMANT at the same sample (R173). -/
def Obligations.MeasurementCompletes : Prop :=
  (∀ (code : Int) (volts : Nat) (s : State),
    s.imon.seq = .injecting .p4 (125 * 2 ^ s.mdu.cfg.phaseCode - 1) →
    s.mdu.cfg.crop < 125 * 2 ^ s.mdu.cfg.phaseCode → -2047 < code → code < 2047 →
    s.imon.sums.s1 - s.imon.sums.s2 - s.imon.sums.s3 + (s.imon.sums.s4 + code) ≤ 0 →
    s.pbi.attempt = none → s.mfe.record.ustr = some volts → s.mdu.dormantTimer ≠ .expired →
    s.latched .injector = false →
    ∃ t, exec (.insulationSample code) s = .next t ∧ t.imon.isoSw = .opened ∧ t.imon.injecting = false ∧
      t.mfe.insClock = none ∧ t.imon.insulation = s.imon.insulation ∧ t.imon.belowWarn = s.imon.belowWarn ∧
      t.pbi.result = some { payload := [BitVec.ofNat 8 s.imon.intentSeq, 3, 0, 0] ++ be16 volts, failed := 0 } ∧
      (s.imon.noResponse = 0 →
        t.imon.noResponse = 1 ∧ t.flu = s.flu ∧ t.pbi.random = (s.pbi.random * 25173 + 13849) % 65536 ∧
        t.imon.seq = .waiting
          ((s.mdu.cfg.interval + t.pbi.random % (s.mdu.cfg.interval / 8 + 1)) * 1000000)) ∧
      (1 ≤ s.imon.noResponse →
        t.imon.noResponse = 2 ∧ t.imon.seq = .off ∧ t.latched .injector = true ∧ t.pbi.random = s.pbi.random)) ∧
  ∀ (code : Int) (volts value : Nat) (kind : ResultKind) (s : State),
    s.imon.seq = .injecting .p4 (125 * 2 ^ s.mdu.cfg.phaseCode - 1) →
    s.mdu.cfg.crop < 125 * 2 ^ s.mdu.cfg.phaseCode → -2047 < code → code < 2047 →
    0 < s.imon.sums.s1 - s.imon.sums.s2 - s.imon.sums.s3 + (s.imon.sums.s4 + code) →
    (kind, value) = resistance s.mdu.cfg.rm s.mdu.cfg.uinj s.mdu.cfg.rc
      (125 * 2 ^ s.mdu.cfg.phaseCode - s.mdu.cfg.crop)
      (s.imon.sums.s1 - s.imon.sums.s2 - s.imon.sums.s3 + (s.imon.sums.s4 + code)) →
    s.pbi.attempt = none → s.mfe.record.ustr = some volts → s.mdu.dormantTimer ≠ .expired →
    ∃ t, exec (.insulationSample code) s = .next t ∧ t.imon.isoSw = .opened ∧ t.imon.injecting = false ∧
      t.mfe.insClock = none ∧ t.imon.noResponse = 0 ∧
      (s.mdu.mode = .listening ∨ s.mdu.mode = .run ∨ s.mdu.mode = .powerHold →
        CountersAfter s.mdu.cfg.faultK s.mdu.cfg.warnK value s.imon t.imon ∧
        InsulationAfter s.imon.insulation s.slu.session.isIdle (2 ^ s.mdu.cfg.confirmCode) t.imon ∧
        (t.imon.insulation = .warning → s.imon.insulation ≠ .warning → t.latched .isoWarn = true) ∧
        (t.imon.insulation = .fault → s.imon.insulation ≠ .fault → t.latched .isoFault = true)) ∧
      t.pbi.result = some
        { payload := [BitVec.ofNat 8 s.imon.intentSeq, BitVec.ofNat 8 (if kind = .valid then 0 else 1)] ++
            be16 value ++ be16 volts,
          failed := 0 } ∧
      t.pbi.random = (s.pbi.random * 25173 + 13849) % 65536 ∧
      t.imon.seq = .waiting
        ((s.mdu.cfg.interval + t.pbi.random % (s.mdu.cfg.interval / 8 + 1)) * 1000000)

/-- R97, R98, R101: when the interval or the holdoff runs out on an unclaimed bus, the intent sequence rises by 1,
wrapping from 255 to 0, INTENT is loaded with it, and the sequencer goes to INTENT, pending; on a claimed bus it goes
to HOLDOFF for the next random value mod 8, plus 1, seconds. Nothing else changes but the model's own mark of a fresh
timer. A timer that a result has restarted at this instant does not run out. That the command acts once time has passed
since the timer was set, whatever time is left, is the model's choice (log 2). -/
def Obligations.TurnTaken : Prop :=
  ∀ (c : Instr) (left : Nat) (s : State),
    (c = .intervalTimerExpiry ∧ s.imon.seq = .waiting left) ∨
      (c = .holdoffTimerExpiry ∧ s.imon.seq = .holdoff left) →
    s.pbi.attempt = none →
    (s.imon.timerFresh = true → exec c s = .next s) ∧
    (s.imon.timerFresh = false → (s.imon.peerIntent = none ∧ ∀ e ∈ s.pvt.view, ∀ p, e.age < 3 → e.part = some p → p.injecting = false) →
      exec c s = .next
        { s with
          imon.seq := .pending, imon.injecting := false, imon.isoSw := .opened, mfe.insClock := none,
          imon.intentSeq := (s.imon.intentSeq + 1) % 256,
          pbi.intent := some { payload := [BitVec.ofNat 8 ((s.imon.intentSeq + 1) % 256)], failed := 0 } }) ∧
    (s.imon.timerFresh = false → ((∃ left, s.imon.peerIntent = some left) ∨
        ∃ e ∈ s.pvt.view, ∃ p, e.age < 3 ∧ e.part = some p ∧ p.injecting = true) →
      exec c s = .next
        { s with
          imon.timerFresh := true, imon.seq := .holdoff (((s.pbi.random * 25173 + 13849) % 65536 % 8 + 1) * 1000000),
          imon.injecting := false, imon.isoSw := .opened, mfe.insClock := none,
          pbi.random := (s.pbi.random * 25173 + 13849) % 65536 })

/-- R103, R94, R17, R97: a listen window that runs out begins INJECTING at phase 1, index 0, with the sums 0, ISO_SW
closed at polarity + and the first sample 4 ms away; a peer intent timer that runs out stops. Nothing else changes.
That each command acts once time has passed since its timer was set, whatever time is left, is the model's choice
(log 2). -/
def Obligations.WindowEnds : Prop :=
  (∀ (left : Nat) (s : State), s.imon.seq = .window left → s.imon.timerFresh = false →
    exec .windowTimerExpiry s = .next
      { s with
        imon.seq := .injecting .p1 0, imon.sums := ⟨0, 0, 0, 0⟩, imon.injecting := true, imon.isoSw := .plus,
        mfe.insClock := some 4000 }) ∧
  ∀ (left : Nat) (s : State), s.imon.peerIntent = some left →
    exec .peerIntentTimerExpiry s = .next (if left < 300000 then { s with imon.peerIntent := none } else s)

/-! ## Peer bus interface -/

/-- R20, R30, R32: 80 µs of quiet make the bus idle, end a take-up, and let a holdoff with nothing left run out; a
dominant level of another station restarts the quiet time and leaves the holdoff's rest as it is, and on an idle bus
the receiver takes the telegram up, on a busy one it does not; a holdoff runs out only on an idle bus. Nothing else
changes. That BUS_IDLE acts once time has passed since the last level, whatever the time left, and that
HOLDOFF_RUNS_OUT on an idle bus ends the holdoff whatever is left of it, are the model's choices (log 2), and so is what
a level says of whose telegram is on the bus (log 10). -/
def Obligations.BusSensing : Prop :=
  ∀ s : State, s.mdu.mode.runs = true → s.pbi.attempt = none →
    (0 < s.pbi.quiet → exec .busIdle s = .next
      { s with
        pbi.quiet := 80, pbi.foreign := false, pbi.receiving := false,
        pbi.holdoff := if s.pbi.holdoff = some 0 then none else s.pbi.holdoff }) ∧
    (s.pbi.quiet = 0 → exec .busIdle s = .next s) ∧
    (80 ≤ s.pbi.quiet →
      exec .busActivity s = .next { s with pbi.quiet := 0, pbi.foreign := true, pbi.receiving := true } ∧
      exec .holdoffRunsOut s = .next { s with pbi.holdoff := none }) ∧
    (s.pbi.quiet < 80 →
      exec .busActivity s = .next { s with pbi.quiet := 0 } ∧ exec .holdoffRunsOut s = .next s)

/-- R22, R26, R19: on an idle bus with no holdoff and no attempt, the first occupied slot in the order INTENT,
RESULT, BEACON, LOG_REPLY starts its attempt: the telegram bears the own id, its kind and the slot's payload,
for BEACON the payload assembled then, and lasts 20 µs a byte. Nothing else changes. -/
def Obligations.AttemptStarts : Prop :=
  ∀ (s : State) (slot : SlotKind) (kind : Kind) (payload : List Byte),
    s.mdu.mode.runs = true → 80 ≤ s.pbi.quiet → s.pbi.holdoff = none → s.pbi.attempt = none →
    ((∃ x, s.pbi.intent = some x ∧ slot = .intent ∧ kind = .injectIntent ∧ payload = x.payload) ∨
      (∃ x, s.pbi.intent = none ∧ s.pbi.result = some x ∧ slot = .result ∧ kind = .isoResult ∧
        payload = x.payload) ∨
      (∃ n, s.pbi.intent = none ∧ s.pbi.result = none ∧ s.pbi.beacon = some n ∧ slot = .beacon ∧
        kind = .beacon ∧ payload = s.beaconPayload) ∨
      (∃ x, s.pbi.intent = none ∧ s.pbi.result = none ∧ s.pbi.beacon = none ∧ s.pbi.logReply = some x ∧
        slot = .logReply ∧ kind = .logRecord ∧ payload = x.payload)) →
      exec .attemptStart s = .next
        { s with
          pbi.quiet := 0, pbi.receiving := true,
          pbi.attempt := some
            { slot := slot, telegram := frame s.mdu.station kind payload, claim := s.she.claim,
              left := (5 + payload.length) * 20 } }

/-- R27, R29, R30, R31, R23, R24, R102, R101, R96: a collision ends the attempt, raises the count of its slot or drops
the telegram at the eighth failure, draws the next random value, and sets the holdoff to floor(x/4096)·64 µs. A load or
request held during the attempt then occupies its slot with count 0, whatever the count had reached, and a withdrawn
INTENT is empty. Nothing else changes but the bus, where the other telegram goes on (log 11). The eighth failure of a
pending intent empties INTENT, and the sequencer goes to HOLDOFF with the second of two draws, the first having set the
collision holdoff; in another sequencer state the drop is not acted on. -/
def Obligations.CollisionBacksOff : Prop :=
  (∀ (a : Attempt) (s : State), s.pbi.attempt = some a →
    (a.slot = .result → exec .collision s = .next
      { s with
        pbi.attempt := none, pbi.quiet := 0, pbi.foreign := true,
        pbi.random := (s.pbi.random * 25173 + 13849) % 65536,
        pbi.holdoff := some ((s.pbi.random * 25173 + 13849) % 65536 / 4096 * 64),
        pbi.heldResult := none,
        pbi.result :=
          match s.pbi.heldResult with
          | some p => some { payload := p, failed := 0 }
          | none => s.pbi.result.bind fun x =>
            if 8 ≤ x.failed + 1 then none else some { x with failed := x.failed + 1 } }) ∧
    (a.slot = .beacon → exec .collision s = .next
      { s with
        pbi.attempt := none, pbi.quiet := 0, pbi.foreign := true,
        pbi.random := (s.pbi.random * 25173 + 13849) % 65536,
        pbi.holdoff := some ((s.pbi.random * 25173 + 13849) % 65536 / 4096 * 64),
        pbi.heldBeacon := false,
        pbi.beacon :=
          if s.pbi.heldBeacon then some 0
          else s.pbi.beacon.bind fun n => if 8 ≤ n + 1 then none else some (n + 1) }) ∧
    (a.slot = .logReply → exec .collision s = .next
      { s with
        pbi.attempt := none, pbi.quiet := 0, pbi.foreign := true,
        pbi.random := (s.pbi.random * 25173 + 13849) % 65536,
        pbi.holdoff := some ((s.pbi.random * 25173 + 13849) % 65536 / 4096 * 64),
        pbi.logReply := s.pbi.logReply.bind fun x =>
          if 8 ≤ x.failed + 1 then none else some { x with failed := x.failed + 1 } }) ∧
    (∀ x, a.slot = .intent → s.pbi.intent = some x → x.failed < 7 ∨ s.imon.seq ≠ .pending → exec .collision s = .next
      { s with
        pbi.attempt := none, pbi.quiet := 0, pbi.foreign := true,
        pbi.random := (s.pbi.random * 25173 + 13849) % 65536,
        pbi.holdoff := some ((s.pbi.random * 25173 + 13849) % 65536 / 4096 * 64),
        pbi.heldIntent := none, pbi.withdrawn := false,
        pbi.intent :=
          match s.pbi.heldIntent with
          | some p => some { payload := p, failed := 0 }
          | none =>
            if s.pbi.withdrawn = true ∨ 8 ≤ x.failed + 1 then none else some { x with failed := x.failed + 1 } })) ∧
  ∀ (a : Attempt) (x : TxSlot) (s : State),
    s.pbi.attempt = some a → a.slot = .intent → s.pbi.intent = some x → x.failed = 7 →
    s.pbi.heldIntent = none → s.imon.seq = .pending →
    ∃ t, exec .collision s = .next t ∧ t.pbi.intent = none ∧ t.pbi.attempt = none ∧
      t.pbi.holdoff = some ((s.pbi.random * 25173 + 13849) % 65536 / 4096 * 64) ∧
      t.pbi.random = ((s.pbi.random * 25173 + 13849) % 65536 * 25173 + 13849) % 65536 ∧
      t.imon.seq = .holdoff ((t.pbi.random % 8 + 1) * 1000000) ∧ t.imon.injecting = false ∧
      t.imon.intentSeq = s.imon.intentSeq ∧ t.mdu = s.mdu ∧ t.she = s.she ∧ t.slu = s.slu ∧ t.flu = s.flu ∧
      t.pvt = s.pvt ∧ t.store = s.store

/-- R28, R83, R102, R96, R23, R24: the success of an attempt empties its slot and restarts the quiet time, and a load or
request held during the attempt then occupies the slot with count 0. A sent beacon sets c_tx to the claim it carried
and D to the lesser of c and c_tx; a sent intent that was pending, with no other intent held, opens the 300 ms window,
and in another sequencer state the report is not acted on; a sent result or reply changes nothing else (but for the
model's own marks of what is on the bus and of a fresh timer, logs 10 and 2). -/
def Obligations.AttemptSucceeds : Prop :=
  ∀ (a : Attempt) (s : State), s.pbi.attempt = some a →
    (a.slot = .result → exec .attemptSuccess s = .next
      { s with
        pbi.attempt := none, pbi.quiet := 0, pbi.foreign := false, pbi.receiving := false, pbi.heldResult := none,
        pbi.result := s.pbi.heldResult.map fun p => { payload := p, failed := 0 } }) ∧
    (a.slot = .logReply → exec .attemptSuccess s = .next
      { s with pbi.attempt := none, pbi.logReply := none, pbi.quiet := 0, pbi.foreign := false, pbi.receiving := false }) ∧
    (a.slot = .intent → s.imon.seq = .pending → s.pbi.heldIntent = none → exec .attemptSuccess s = .next
      { s with
        pbi.attempt := none, pbi.intent := none, pbi.withdrawn := false, pbi.quiet := 0, pbi.foreign := false,
        pbi.receiving := false, imon.timerFresh := true, imon.seq := .window 300000, imon.injecting := true, imon.isoSw := .opened,
        mfe.insClock := none }) ∧
    (a.slot = .intent → s.imon.seq ≠ .pending → exec .attemptSuccess s = .next
      { s with
        pbi.attempt := none, pbi.withdrawn := false, pbi.quiet := 0, pbi.foreign := false, pbi.receiving := false,
        pbi.heldIntent := none, pbi.intent := s.pbi.heldIntent.map fun p => { payload := p, failed := 0 } }) ∧
    (a.slot = .beacon → ∃ t, exec .attemptSuccess s = .next t ∧
      t.pbi = { s.pbi with
        attempt := none, beacon := if s.pbi.heldBeacon then some 0 else none, heldBeacon := false, quiet := 0,
        foreign := false, receiving := false } ∧
      t.she.claimTx = a.claim ∧ t.she.drawn = min s.she.claim a.claim ∧ t.she.claim = s.she.claim ∧
      t.she.demand = s.she.demand ∧ t.mdu = s.mdu ∧ t.imon = s.imon ∧ t.slu = s.slu ∧ t.flu = s.flu ∧
      t.pvt = s.pvt ∧ t.emt = s.emt ∧ t.store = s.store)

/-- R19: a telegram of payload length L lasts (5 + L)·20 µs, and no recessive stretch inside it is longer than
the eight data bits and the stop bit of one byte: among any ten levels in a row one is dominant. -/
def Obligations.RecessiveStretch : Prop :=
  (∀ (source : Nat) (k : Kind) (payload : List Byte),
    wireTime (frame source k payload) = (5 + payload.length) * 20) ∧
  ∀ (t : List Byte) (i : Nat), i + 10 ≤ (wireLevels t).length →
    ∃ j, j < 10 ∧ (wireLevels t)[i + j]? = some true

/-- R177, R33: every telegram that a station can send, with any source id, any kind and any payload of a length
permitted for the kind, passes the receiver's checks and is read back as it was sent. -/
def Obligations.TelegramRoundTrip : Prop :=
  ∀ (source : Nat) (k : Kind) (payload : List Byte), source < 16 → k.permits payload.length = true →
    checkTelegram (frame source k payload) = some { source := source, kind := k, payload := payload }

/-- R33, R177: a telegram with one byte changed, wherever it stands, fails the receiver's checks. -/
def Obligations.DamagedTelegram : Prop :=
  ∀ (source : Nat) (k : Kind) (payload : List Byte) (i : Nat) (b : Byte),
    source < 16 → k.permits payload.length = true → i < (frame source k payload).length →
    (frame source k payload)[i]? ≠ some b → checkTelegram ((frame source k payload).set i b) = none

/-- R42, R37: the beacon a station assembles is read by a peer as the station's phase, claim, wanting flag and
injecting flag, for every phase and every claim that its field holds. -/
def Obligations.BeaconRoundTrip : Prop :=
  ∀ s : State, s.mdu.phase < 4 → s.she.claim < 65536 →
    s.beaconPayload.length = 20 ∧
    beaconPart s.beaconPayload =
      { phase := if s.mdu.phase = 0 then none else some s.mdu.phase, claim := s.she.claim,
        wanting := s.she.wanting, injecting := s.imon.injecting }

/-! ## Arrivals -/

/-- R33, R32, R20: a telegram that the receiver has taken up and that fails its checks is discarded without trace,
whatever kind it was sent as, and so is TELEGRAM_DISCARDED's on a busy bus: it only ends on the bus, where the quiet
time restarts. As the bus becomes idle, and on an idle bus, TELEGRAM_DISCARDED is a truncation: it ends the take-up alone
and leaves the quiet time; with an own attempt started at that instant it changes nothing. A telegram that the receiver has not taken up (in progress at a start or a wake, or begun on a busy bus)
is no arrival whatever it bears: it only restarts the quiet time. That a telegram is one unit whose end restarts the
quiet time, and that a discard in the last microsecond before the idle bus is a truncation, is the model's reading
(log 10). -/
def Obligations.DiscardedWithoutTrace : Prop :=
  (∀ (telegram : List Byte) (c : Instr) (s : State),
    (s.Hears ∧ checkTelegram telegram = none ∧
        c ∈ [.beaconArrival telegram, .contractArrival telegram, .haltArrival telegram,
          .injectIntentArrival telegram, .isoResultArrival telegram, .logReadArrival telegram,
          .logRecordArrival telegram, .flagClearArrival telegram]) ∨
      (s.mdu.mode.runs = true ∧ c = .telegramDiscarded ∧ s.pbi.attempt = none ∧ s.pbi.quiet < 79) →
      exec c s = .next { s with pbi.quiet := 0, pbi.foreign := false, pbi.receiving := false }) ∧
  (∀ s : State, s.mdu.mode.runs = true →
    (s.pbi.attempt = none → 79 ≤ s.pbi.quiet →
      exec .telegramDiscarded s = .next { s with pbi.foreign := false, pbi.receiving := false }) ∧
    (s.pbi.attempt ≠ none → exec .telegramDiscarded s = .next s)) ∧
  ∀ (telegram : List Byte) (c : Instr) (s : State), s.mdu.mode.runs = true → ¬ s.Hears →
    c ∈ [.beaconArrival telegram, .contractArrival telegram, .haltArrival telegram,
      .injectIntentArrival telegram, .isoResultArrival telegram, .logReadArrival telegram,
      .logRecordArrival telegram, .flagClearArrival telegram] →
      exec c s = .next { s with pbi.quiet := 0 }

/-- R35, R79, R96, R141, R155: an arrival that the receiver has taken up (R32) and that bears the own id, of any kind, latches DUP_ID and is not handed
on: the claim is 0, the sequencer OFF, no session OPEN, and the peer view, the contract record and the clock are
as they were. The hypothesis on the dormant timer excludes an entry into DORMANT in the same step (R173). -/
def Obligations.OwnIdArrival : Prop :=
  ∀ (telegram : List Byte) (k : Kind) (payload : List Byte) (c : Instr) (s : State),
    s.Hears → s.mdu.dormantTimer ≠ .expired → s.latched .dupId = false →
    checkTelegram telegram = some { source := s.mdu.station, kind := k, payload := payload } →
    (k, c) ∈ [(.beacon, .beaconArrival telegram), (.contract, .contractArrival telegram),
      (.halt, .haltArrival telegram), (.injectIntent, .injectIntentArrival telegram),
      (.isoResult, .isoResultArrival telegram), (.logRead, .logReadArrival telegram),
      (.logRecord, .logRecordArrival telegram), (.flagClear, .flagClearArrival telegram)] →
    ∃ t, exec c s = .next t ∧ t.latched .dupId = true ∧
      (∀ f, f ≠ .dupId → f ≠ .log → t.latched f = s.latched f) ∧ t.she.claim = 0 ∧
      t.imon.seq = .off ∧ t.imon.isoSw = .opened ∧ t.imon.peerIntent = s.imon.peerIntent ∧
      (s.mdu.mode ≠ .configHold → t.slu.session.isOpen = false) ∧ t.pvt = s.pvt ∧ t.clock = s.clock ∧
      t.mdu = s.mdu

/-- R36, R37, R40, R48, R172: a BEACON of a peer whose injecting flag is no settles the sender's entry (MODULE, age 0,
the module part of the beacon's own fields), and a LOG_RECORD of a peer settles it as a MODULE that keeps the module
part of a MODULE entry and restarts the dormant timer in RUN. Either, from a station that the view shows as INLET and
that takes part in a conflict, makes the CONFLICTED record RESOLVING. Neither changes anything else but the bus, and
every other entry stays. -/
def Obligations.PeerEntrySettled : Prop :=
  ∀ (telegram payload : List Byte) (source : Nat) (kind : Kind) (c : Instr) (s : State),
    s.Hears → source ≠ s.mdu.station →
    checkTelegram telegram = some { source := source, kind := kind, payload := payload } →
    (kind = .beacon ∧ c = .beaconArrival telegram ∧ (payload.getD 9 0).getLsbD 1 = false) ∨
      (kind = .logRecord ∧ c = .logRecordArrival telegram) →
    ∃ t, exec c s = .next t ∧
      t = { s with
        pbi.quiet := 0, pbi.foreign := false, pbi.receiving := false, pvt.view := t.pvt.view,
        pvt.record := t.pvt.record,
        mdu.dormantTimer :=
          if kind = .logRecord ∧ s.mdu.mode = .run then .running (s.mdu.cfg.dormantTimeout * 1000000)
          else s.mdu.dormantTimer } ∧
      (s.pvt.record = none → t.pvt.record = none) ∧
      (∀ r, s.pvt.record = some r →
        (r.Between source ∧ showsInlet s.pvt.view source = true →
          t.pvt.record = some { r with status := .resolving }) ∧
        (¬ (r.Between source ∧ showsInlet s.pvt.view source = true) → t.pvt.record = some r)) ∧
      (∀ id, id ≠ source → t.pvt.view.find? (fun e => e.id == id) = s.pvt.view.find? (fun e => e.id == id)) ∧
      t.pvt.view.find? (fun e => e.id == source) = some
        { id := source, role := .module, age := 0,
          part :=
            if kind = .beacon then some
              { phase :=
                  if 1 ≤ (payload.getD 0 0).toNat ∧ (payload.getD 0 0).toNat ≤ 3 then some (payload.getD 0 0).toNat
                  else none,
                claim := (payload.getD 7 0).toNat * 256 + (payload.getD 8 0).toNat,
                wanting := (payload.getD 9 0).getLsbD 0, injecting := false }
            else
              match s.pvt.view.find? (fun e => e.id == source) with
              | some e => if e.role = .module then e.part else none
              | none => none }

/-- R43, R44, R49, R50, R52, R100, R116, R137, R139, R141, R146, R147: a CONTRACT from a peer in NONE or RESOLVING, from
the record's source with another sequence, or from another station while the source's entry is not INLET, is accepted:
HELD with the arrival's fields, each limit at most 630, the windows those of `ContractWindows`, the loss timer at 1000
ms, the local time set when the second is 86399 or less, and the halted id cleared unless the contract carries it
plugged. Outside CONFIG_HOLD a plugged contract whose id may start a session makes the session PENDING for 60 s with no
clearance and a prompt measurement from WAITING, from IDLE, from PENDING with another id, and from OPEN with another id
once the closing buffer has taken the record; otherwise PENDING returns to IDLE and OPEN ends, UNPLUGGED or
SESSION_CHANGED, unless the contract carries the session's own id plugged. -/
def Obligations.ContractAccepted : Prop :=
  ∀ (telegram p : List Byte) (source : Nat) (s : State),
    s.Hears → source ≠ s.mdu.station →
    checkTelegram telegram = some { source := source, kind := .contract, payload := p } →
    Accepts s.pvt.view s.pvt.record source (rd8 p 0) →
    ∃ t r, exec (.contractArrival telegram) s = .next t ∧ t.pvt.record = some r ∧ r.status = .held ∧
      r.source = source ∧ r.seq = rd8 p 0 ∧ r.plugged = decide (rd8 p 1 ≠ 0) ∧ r.session = rd32 p 2 ∧
      r.lim1 = min (rd16 p 6) 630 ∧ r.lim2 = min (rd16 p 8) 630 ∧ r.lim3 = min (rd16 p 10) 630 ∧
      r.windows = contractWindows p ∧ t.pvt.lossTimer = some 1000000 ∧
      t.clock =
        (if rd32 p 14 ≤ 86399 then
          { day := rd16 p 12, second := rd32 p 14, valid := true, toAdvance := 1000000 }
        else s.clock) ∧
      t.pvt.halted = (if rd32 p 2 = s.pvt.halted ∧ rd8 p 1 ≠ 0 then s.pvt.halted else 0) ∧
      t.mdu.mode = s.mdu.mode ∧
      (s.mdu.mode = .configHold → t.slu = s.slu) ∧
      (s.mdu.mode ≠ .configHold → Startable s.mdu.mode r.plugged r.session t.pvt.halted →
        Starts s.slu.session s.slu.buffer.isNone r.session →
        t.slu.session = .pending r.session 60000000 ∧ t.imon.clearance = false ∧
        (∀ left, s.imon.seq = .waiting left →
          t.pbi.random = (s.pbi.random * 25173 + 13849) % 65536 ∧
          t.imon.seq = .waiting (min left (t.pbi.random % 1001 * 1000))) ∧
        ((∀ left, s.imon.seq ≠ .waiting left) → t.pbi.random = s.pbi.random ∧ t.imon.seq = s.imon.seq)) ∧
      (s.mdu.mode ≠ .configHold →
        ¬ (Startable s.mdu.mode r.plugged r.session t.pvt.halted ∧
          Starts s.slu.session s.slu.buffer.isNone r.session) →
        t.pbi.random = s.pbi.random ∧ t.imon.seq = s.imon.seq ∧
        match s.slu.session with
        | .idle => t.slu = s.slu
        | .pending own _ =>
          if r.plugged = true ∧ r.session = own then t.slu = s.slu
          else t.slu = { s.slu with session := .idle } ∧ t.imon.clearance = false
        | .opened o _ =>
          if r.plugged = true ∧ r.session = o.id then t.slu = s.slu
          else if s.slu.buffer = none then t.slu.session = .idle
          else
            ∃ closed, t.slu = { s.slu with
              session := .ended o (if r.plugged = true then .sessionChanged else .unplugged) closed }
        | .ended .. => t.slu = s.slu) ∧
      (∀ o left, s.mdu.mode ≠ .configHold → s.slu.session = .opened o left →
        ¬ (r.plugged = true ∧ r.session = o.id) → s.slu.buffer = none → newestSeq s.slu.table < 4294967295 →
        ∃ b, t.slu.buffer = some b ∧ b.record.id = o.id ∧ b.record.seq = newestSeq s.slu.table + 1 ∧
          b.record.reason = if r.plugged = true then .sessionChanged else .unplugged)

/-- R45, R179: the windows of an accepted contract are those carried when the count is 6 or less and fits the
length, every start is 1439 or less, every class 3 or less and the starts ascend strictly, and none otherwise. -/
def Obligations.ContractWindows : Prop :=
  ∀ p : List Byte,
    ((rd8 p 18 ≤ 6 ∧ p.length = 19 + 3 * rd8 p 18 ∧
        (∀ j < rd8 p 18, rd16 p (19 + 3 * j) ≤ 1439 ∧ rd8 p (21 + 3 * j) ≤ 3) ∧
        ∀ j, j + 1 < rd8 p 18 → rd16 p (19 + 3 * j) < rd16 p (22 + 3 * j)) →
      contractWindows p =
        (List.range (rd8 p 18)).map fun j => { start := rd16 p (19 + 3 * j), cls := rd8 p (21 + 3 * j) }) ∧
    (¬ (rd8 p 18 ≤ 6 ∧ p.length = 19 + 3 * rd8 p 18 ∧
        (∀ j < rd8 p 18, rd16 p (19 + 3 * j) ≤ 1439 ∧ rd8 p (21 + 3 * j) ≤ 3) ∧
        ∀ j, j + 1 < rd8 p 18 → rd16 p (19 + 3 * j) < rd16 p (22 + 3 * j)) →
      contractWindows p = [])

/-- R43, R47, R48, R44, R79, R81: a repeat of the held contract, and any CONTRACT in CONFLICTED,
restart the loss timer; the record, the clock, the session, the claim and the halted id stay as they are. A CONTRACT
of another station than the source, while the source's entry is INLET, makes the record CONFLICTED with the
contender, keeps its other fields, latches CONTRACT_CONFLICT and takes the claim to 0; the clock and the halted id
stay. -/
def Obligations.ContractTurnedAway : Prop :=
  (∀ (telegram p : List Byte) (source : Nat) (r : Contract) (s : State),
    s.Hears → source ≠ s.mdu.station →
    checkTelegram telegram = some { source := source, kind := .contract, payload := p } →
    s.pvt.record = some r →
    ((r.status = .held ∧ r.source = source ∧ r.seq = rd8 p 0) ∨
      ∃ x, r.status = .conflicted x) →
    ∃ t, exec (.contractArrival telegram) s = .next t ∧ t.pvt.lossTimer = some 1000000 ∧
      t.pvt.record = some r ∧ t.pvt.halted = s.pvt.halted ∧ t.clock = s.clock ∧ t.slu = s.slu ∧
      t.she = s.she ∧ t.imon = s.imon ∧ t.emt = s.emt ∧ t.thu = s.thu ∧ t.flu = s.flu ∧ t.mfe = s.mfe ∧
      t.store = s.store ∧ t.mdu.mode = s.mdu.mode) ∧
  ∀ (telegram p : List Byte) (source : Nat) (r : Contract) (s : State),
    s.Hears → source ≠ s.mdu.station →
    checkTelegram telegram = some { source := source, kind := .contract, payload := p } →
    s.pvt.record = some r → r.status = .held → r.source ≠ source →
    showsInlet s.pvt.view r.source = true →
    ∃ t, exec (.contractArrival telegram) s = .next t ∧
      t.pvt.record = some { r with status := .conflicted source } ∧ t.pvt.lossTimer = some 1000000 ∧
      t.latched .contractConflict = true ∧ t.she.claim = 0 ∧ t.pvt.halted = s.pvt.halted ∧
      t.clock = s.clock ∧ t.store = s.store ∧ t.mdu.mode = s.mdu.mode

/-- R48: a change of the view at which the source's or the contender's entry stops being INLET makes a
CONFLICTED record RESOLVING with its other fields kept, and no other change of the view touches the record. -/
def Obligations.ConflictEnds : Prop :=
  ∀ (view : List Entry) (r : Contract) (s : State), s.pvt.record = some r →
    (∀ x, r.status = .conflicted x →
      (showsInlet s.pvt.view r.source = true ∧ showsInlet view r.source = false) ∨
        (showsInlet s.pvt.view x = true ∧ showsInlet view x = false) →
      s.setView view = { s with pvt.view := view, pvt.record := some { r with status := .resolving } }) ∧
    ((∀ x, r.status = .conflicted x →
        (showsInlet s.pvt.view r.source = true → showsInlet view r.source = true) ∧
          (showsInlet s.pvt.view x = true → showsInlet view x = true)) →
      s.setView view = { s with pvt.view := view })

/-- R51, R36, R37, R139, R141, R172: a HALT of the record's source, with any reason byte, sets the halted id to the
record's session id (a record with id 0 leaves it); outside CONFIG_HOLD it returns a PENDING session to IDLE and ends an
OPEN one with reason HALTED and the claim at 0, its record waiting in ENDED while the closing buffer is occupied and
going into it when it is free. The record, the loss timer and the clock stay. A HALT of another station, or one that
finds no record, settles the sender's entry as an INLET without module part, restarts the dormant timer in RUN, and changes nothing else
but the bus. That only a MODULE entry has a module part is an invariant of every step (`LogKept`). -/
def Obligations.HaltArrives : Prop :=
  ∀ (telegram p : List Byte) (source : Nat) (s : State),
    s.Hears → (∀ e ∈ s.pvt.view, e.role ≠ .module → e.part = none) → source ≠ s.mdu.station →
    checkTelegram telegram = some { source := source, kind := .halt, payload := p } →
    (∀ r, s.pvt.record = some r → r.source = source →
      ∃ t, exec (.haltArrival telegram) s = .next t ∧
        t.pvt.halted = (if r.session = 0 then s.pvt.halted else r.session) ∧ t.pvt.record = some r ∧
        t.pvt.lossTimer = s.pvt.lossTimer ∧ t.clock = s.clock ∧ t.mdu.mode = s.mdu.mode ∧
        (s.mdu.mode ≠ .configHold →
          (s.slu.session.isPending = true → t.slu = { s.slu with session := .idle }) ∧
          ∀ o left, s.slu.session = .opened o left →
            t.she.claim = 0 ∧
            (∀ b, s.slu.buffer = some b →
              ∃ closed, t.slu = { s.slu with session := .ended o .halted closed }) ∧
            (s.slu.buffer = none → newestSeq s.slu.table < 4294967295 →
              t.slu.session = .idle ∧ ∃ b, t.slu.buffer = some b ∧ b.record.id = o.id ∧
                b.record.reason = .halted ∧ b.record.seq = newestSeq s.slu.table + 1))) ∧
    ((∀ r, s.pvt.record = some r → r.source ≠ source) →
      ∃ t, exec (.haltArrival telegram) s = .next t ∧
        t = { s with
          pbi.quiet := 0, pbi.foreign := false, pbi.receiving := false, pvt.view := t.pvt.view,
          mdu.dormantTimer :=
            if s.mdu.mode = .run then .running (s.mdu.cfg.dormantTimeout * 1000000) else s.mdu.dormantTimer } ∧
        (∀ id, id ≠ source → t.pvt.view.find? (fun e => e.id == id) = s.pvt.view.find? (fun e => e.id == id)) ∧
        t.pvt.view.find? (fun e => e.id == source) = some { id := source, role := .inlet, age := 0, part := none })

/-- R97, R102, R103, R107: a peer's INJECT_INTENT restarts the peer intent timer at 300 ms, and it, or a peer's BEACON
whose injecting flag is yes, makes an own intent, window or measurement stand back into HOLDOFF: a pending intent is
withdrawn from its slot, and a measurement aborts with its switch open and INTERFERED loaded; in the other sequencer
states nothing more. -/
def Obligations.PeerIntentArrives : Prop :=
  ∀ (telegram p : List Byte) (source : Nat) (kind : Kind) (c : Instr) (s : State),
    s.Hears → source ≠ s.mdu.station →
    checkTelegram telegram = some { source := source, kind := kind, payload := p } →
    (kind = .injectIntent ∧ c = .injectIntentArrival telegram) ∨
      (kind = .beacon ∧ c = .beaconArrival telegram ∧ (p.getD 9 0).getLsbD 1 = true) →
    s.pbi.attempt = none →
    ∃ t, exec c s = .next t ∧
      t.imon.peerIntent = (if kind = .injectIntent then some 300000 else s.imon.peerIntent) ∧
      (match s.imon.seq with
       | .pending => (∃ left, t.imon.seq = .holdoff left) ∧ t.pbi.intent = none ∧ t.pbi.result = s.pbi.result
       | .window _ => (∃ left, t.imon.seq = .holdoff left) ∧ t.pbi.result = s.pbi.result
       | .injecting _ _ =>
         (∃ left, t.imon.seq = .holdoff left) ∧ t.imon.isoSw = .opened ∧
         ∃ x, t.pbi.result = some x ∧ x.failed = 0 ∧ x.payload.getD 1 0 = 2
       | q => t.imon.seq = q ∧ t.pbi.random = s.pbi.random ∧ t.pbi.intent = s.pbi.intent) ∧
      t.mdu = s.mdu ∧ t.slu = s.slu ∧ t.she = s.she ∧ t.flu = s.flu ∧ t.emt = s.emt ∧ t.clock = s.clock ∧
      t.store = s.store

/-- R112 to R117, R99, R120, R125, R138, R144, R145: a peer's VALID or ABOVE_RANGE result outside CONFIG_HOLD updates
the three counters by the value classified, and then the insulation state: an entry into WARNING latches ISO_WARN, one
into FAULT latches ISO_FAULT, withdraws the clearance and leaves no session OPEN; an OPEN session that goes on takes the
value into its minimum. Outside FAULT a value of fault_k or more gives a PENDING session the clearance: with RUN, a GOOD
line and none of the three blocking flags it opens at once, with its record begun and the meter at its values of R120,
and otherwise it stays PENDING. Last, in WAITING or HOLDOFF the interval is restarted with its spread. The hypothesis on
the dormant timer excludes an entry into DORMANT in the same step (R173), and the hypothesis that no session stays
PENDING with its opening test passing is an invariant of every step (`SessionKept`). An INTERFERED or NO_RESPONSE result, or one of
an unknown kind, is not classified and restarts no interval. -/
def Obligations.PeerResultClassified : Prop :=
  (∀ (telegram p : List Byte) (source r minutes : Nat) (s : State),
    s.Hears → s.mdu.mode = .listening ∨ s.mdu.mode = .run ∨ s.mdu.mode = .powerHold →
    s.mdu.dormantTimer ≠ .expired → s.OpeningSafe → source ≠ s.mdu.station →
    DemandMinutes s.mdu.cfg.demandCode minutes →
    checkTelegram telegram = some { source := source, kind := .isoResult, payload := p } →
    (rd8 p 1 = 0 ∧ r = min (rd16 p 2) 10000) ∨ (rd8 p 1 = 1 ∧ r = 10000) →
    ∃ t, exec (.isoResultArrival telegram) s = .next t ∧
      CountersAfter s.mdu.cfg.faultK s.mdu.cfg.warnK r s.imon t.imon ∧
      InsulationAfter s.imon.insulation s.slu.session.isIdle (2 ^ s.mdu.cfg.confirmCode) t.imon ∧
      (t.imon.insulation = .warning → s.imon.insulation ≠ .warning → t.latched .isoWarn = true) ∧
      (t.imon.insulation = .fault → s.imon.insulation ≠ .fault →
        t.latched .isoFault = true ∧ t.imon.clearance = false ∧ t.slu.session.isOpen = false ∧ t.she.claim = 0) ∧
      (∀ o left, s.slu.session = .opened o left → ¬ (t.imon.insulation = .fault ∧ s.imon.insulation ≠ .fault) →
        ∃ o', t.slu.session = .opened o' left ∧ o'.id = o.id ∧ o'.opened = o.opened ∧
          o'.minIns = some (match o.minIns with
            | some k => min k r
            | none => r)) ∧
      (∀ id left, s.slu.session = .pending id left → s.imon.clearance = false → t.imon.insulation ≠ .fault →
        s.mdu.cfg.faultK ≤ r →
        t.imon.clearance = true ∧
        (s.mdu.mode = .run ∧ s.mfe.line = .good ∧ s.latched .dupId = false ∧ s.latched .thermSensor = false ∧
            s.latched .frontEnd = false →
          ∃ i, t.slu = { s.slu with
              session := .opened
                { id := id, station := s.mdu.station, phase := s.mdu.phase,
                  opened :=
                    if s.clock.valid then { day := s.clock.day, second := s.clock.second, valid := true }
                    else { day := 0, second := 0, valid := false },
                  minIns := none, flags := t.flu.flags } none } ∧
            t.emt = { State.reset.emt with qraw := s.emt.qraw, active := true, interval := some i } ∧
            FirstInterval (60 * minutes) s.clock i) ∧
        (¬ (s.mdu.mode = .run ∧ s.mfe.line = .good ∧ s.latched .dupId = false ∧ s.latched .thermSensor = false ∧
            s.latched .frontEnd = false) → t.slu = s.slu ∧ t.emt = s.emt)) ∧
      ((∀ id left, s.slu.session = .pending id left → r < s.mdu.cfg.faultK ∨ t.imon.insulation = .fault) →
        s.imon.clearance = false → t.imon.clearance = false) ∧
      ((∃ left, s.imon.seq = .waiting left ∨ s.imon.seq = .holdoff left) →
        t.imon.seq = .waiting
          ((s.mdu.cfg.interval + t.pbi.random % (s.mdu.cfg.interval / 8 + 1)) * 1000000) ∧
        (s.slu.session.isOpen = false → t.pbi.random = (s.pbi.random * 25173 + 13849) % 65536)) ∧
      ((∀ left, s.imon.seq ≠ .waiting left ∧ s.imon.seq ≠ .holdoff left) →
        t.imon.seq = s.imon.seq ∧ t.pbi.random = s.pbi.random)) ∧
  ∀ (telegram p : List Byte) (source : Nat) (s : State),
    s.Hears → source ≠ s.mdu.station →
    checkTelegram telegram = some { source := source, kind := .isoResult, payload := p } → 2 ≤ rd8 p 1 →
    ∃ t, exec (.isoResultArrival telegram) s = .next t ∧ t.imon = s.imon ∧ t.slu = s.slu ∧ t.she = s.she ∧
      t.thu = s.thu ∧ t.flu = s.flu ∧ t.emt = s.emt ∧ t.mdu = s.mdu ∧ t.mfe = s.mfe ∧ t.clock = s.clock ∧
      t.store = s.store ∧ t.pbi.random = s.pbi.random

/-- R153, R154, R40: a LOG_READ for the own id with LOG_REPLY free loads a reply with the oldest and newest
sequences: RECORD with the slot's 47 bytes when the sequence is in the slot table, PENDING_WRITE when it waits in
the closing buffer, NOT_HELD otherwise; to a request for NEWEST, RECORD with the slot of the greatest sequence held,
and NOT_HELD when none is. With the slot occupied or for another target, nothing is loaded. The log
itself never changes. -/
def Obligations.LogReadAnswered : Prop :=
  ∀ (telegram p : List Byte) (source : Nat) (s : State),
    s.Hears → source ≠ s.mdu.station →
    checkTelegram telegram = some { source := source, kind := .logRead, payload := p } →
    ∃ t, exec (.logReadArrival telegram) s = .next t ∧ t.slu = s.slu ∧ t.store = s.store ∧ t.flu = s.flu ∧
      t.she = s.she ∧ t.imon = s.imon ∧ t.clock = s.clock ∧
      ((rd8 p 0 ≠ s.mdu.station ∨ s.pbi.logReply ≠ none) → t.pbi.logReply = s.pbi.logReply) ∧
      (rd8 p 0 = s.mdu.station → s.pbi.logReply = none → rd8 p 1 ≠ 1 →
        (∀ slot, slotOf s.slu.table (rd32 p 2) = some slot →
          t.pbi.logReply = some
            { payload := (0 : Byte) ::
                (be32 (oldestSeq s.slu.table) ++ be32 (newestSeq s.slu.table) ++
                  readBytes s.store (48 * slot.val) 47),
              failed := 0 }) ∧
        (slotOf s.slu.table (rd32 p 2) = none →
          t.pbi.logReply = some
            { payload := (if (s.slu.buffer.map fun b => b.record.seq) = some (rd32 p 2) then 2 else 1) ::
                (be32 (oldestSeq s.slu.table) ++ be32 (newestSeq s.slu.table)),
              failed := 0 })) ∧
      (rd8 p 0 = s.mdu.station → s.pbi.logReply = none → rd8 p 1 = 1 → heldSequences s.slu.table = [] →
        t.pbi.logReply = some { payload := [1, 0, 0, 0, 0, 0, 0, 0, 0], failed := 0 }) ∧
      (rd8 p 0 = s.mdu.station → s.pbi.logReply = none → rd8 p 1 = 1 → s.slu.table.length = 16 →
        ∀ (slot : Fin 16) (n : Nat), slotEntry s.slu.table slot = some n →
          (∀ k m, slotEntry s.slu.table k = some m → k ≠ slot → m < n) →
          t.pbi.logReply = some
            { payload := (0 : Byte) ::
                (be32 (oldestSeq s.slu.table) ++ be32 n ++ readBytes s.store (48 * slot.val) 47),
              failed := 0 })

/-- R160, R161, R162, R163, R111, R96, R138: after a FLAG_CLEAR for the own id or ALL, a flag is latched exactly when it was latched
and is either not named or has its condition still holding, where DUP_ID and CONFIG always hold and INJECTOR and
LOG never do; from a state that meets `AlertSafe` ALERT follows the flags and the mask in force, and no reply is
loaded. A cleared INJECTOR makes the NO_RESPONSE count 0, and in RUN with DUP_ID and CONFIG clear a sequencer that is OFF
leaves it for WAITING; without that clear the monitor stays. A PENDING session opens when the flags left let its opening
test pass, and otherwise the session unit stays; that it did not pass before is an invariant of every step
(`SessionKept`). A FLAG_CLEAR for another target changes no flag. While the interface is stopped it changes nothing. -/
def Obligations.FlagClear : Prop :=
  (∀ (telegram : List Byte) (s : State), s.mdu.mode.runs = false → exec (.flagClearArrival telegram) s = .next s) ∧
  ∀ (telegram p : List Byte) (source : Nat) (s : State),
    s.Hears → source ≠ s.mdu.station →
    checkTelegram telegram = some { source := source, kind := .flagClear, payload := p } →
    ∃ t, exec (.flagClearArrival telegram) s = .next t ∧
      (rd8 p 0 ≠ s.mdu.station → rd8 p 0 ≠ 255 → t.flu = s.flu ∧ t.imon = s.imon ∧ t.slu = s.slu) ∧
      (s.latched .injector = true → t.latched .injector = false →
        t.imon.noResponse = 0 ∧
        (s.mdu.mode = .run → s.imon.seq = .off → s.latched .dupId = false → s.latched .config = false →
          LeavesOff s t) ∧
        (s.mdu.mode ≠ .run ∨ s.imon.seq ≠ .off ∨ s.latched .dupId = true ∨ s.latched .config = true →
          t.imon = { s.imon with noResponse := 0 } ∧ t.pbi.random = s.pbi.random)) ∧
      (s.latched .injector = t.latched .injector → t.imon = s.imon ∧ t.pbi.random = s.pbi.random) ∧
      (s.OpeningSafe → ∀ id left, s.slu.session = .pending id left →
        (s.mdu.mode = .run ∧ s.mfe.line = .good ∧ s.imon.clearance = true ∧ t.latched .dupId = false ∧
            t.latched .thermSensor = false ∧ t.latched .frontEnd = false → Opens id s t) ∧
        (¬ (s.mdu.mode = .run ∧ s.mfe.line = .good ∧ s.imon.clearance = true ∧ t.latched .dupId = false ∧
            t.latched .thermSensor = false ∧ t.latched .frontEnd = false) → t.slu = s.slu)) ∧
      (s.slu.session.isPending = false → t.slu = s.slu) ∧
      (rd8 p 0 = s.mdu.station ∨ rd8 p 0 = 255 →
        (∀ f : Flag, t.latched f =
          (s.latched f && !((BitVec.ofNat 12 (rd16 p 1)).getLsbD f.index && !(
            match f with
            | .isoWarn => s.imon.insulation != .good
            | .isoFault => s.imon.insulation == .fault
            | .thermSensor => s.thu.sensorFault
            | .heaterHot => s.thu.heater == .lockout
            | .line => s.mfe.line == .fault
            | .overdraw => s.she.overdraw
            | .frontEnd => s.mfe.refCount == 2
            | .dupId => true
            | .config => true
            | .injector => false
            | .log => false
            | .contractConflict =>
              match t.pvt.record with
              | some r => r.status != .held && r.status != .resolving
              | none => false)))) ∧
        (s.AlertSafe → t.flu.alert =
          if s.mdu.mode = .configHold then t.flu.flags != 0
          else t.flu.flags &&& ~~~ s.mdu.cfg.alertMask != 0)) ∧
      t.pbi.logReply = s.pbi.logReply ∧ t.store = s.store ∧ t.clock = s.clock ∧ t.mdu.mode = s.mdu.mode

/-! ## Own periods, timers and pins -/

/-- R38, R41, R48, R74 to R80, R83, R96, R138, R169, R170, R172: at an own beacon period every entry of the view ages by 1 and
leaves at age 8, and a CONFLICTED record whose source or contender leaves the view as an INLET becomes RESOLVING; the
claim is 0 under a zeroing condition and otherwise that of the computation over the view before or after the ageing, so
that it rises by the ramp at most and does not rise without headroom; the period begins again, a beacon is requested, and the third
period of LISTENING makes the mode RUN and starts the dormant timer: a sequencer that is OFF then leaves it for WAITING
unless INJECTOR, DUP_ID or CONFIG is latched, and a PENDING session whose opening test passes in RUN opens; at any other
period the insulation monitor and the session unit stay. That the command acts whatever time is left is
the model's choice (log 2), and so is the operand for the order of ageing and claim (log 4). -/
def Obligations.OwnBeaconPeriod : Prop :=
  ∀ (ageFirst : Bool) (s : State), s.mdu.mode.runs = true →
    ∃ t, exec (.ownBeaconPeriod ageFirst) s = .next t ∧
      t.pvt.view = s.pvt.view.filterMap
        (fun e => if e.age + 1 < 8 then some { e with age := e.age + 1 } else none) ∧
      (s.pbi.attempt = none → t.pbi.beacon = some 0) ∧
      t.mdu.beaconTimer =
        some (if s.mdu.mode = .configHold then 128000 else 64000 * 2 ^ s.mdu.cfg.beaconCode) ∧
      (s.mdu.mode = .listening →
        t.mdu.listening = s.mdu.listening + 1 ∧
        (s.mdu.listening < 2 → t.mdu.mode = .listening ∧ t.mdu.dormantTimer = s.mdu.dormantTimer) ∧
        (2 ≤ s.mdu.listening →
          t.mdu.mode = .run ∧ t.mdu.dormantTimer = .running (s.mdu.cfg.dormantTimeout * 1000000) ∧
          (s.imon.seq = .off ∧ s.latched .injector = false ∧ s.latched .dupId = false ∧ s.latched .config = false →
            LeavesOff s t) ∧
          (¬ (s.imon.seq = .off ∧ s.latched .injector = false ∧ s.latched .dupId = false ∧
              s.latched .config = false) → t.imon = s.imon ∧ t.pbi.random = s.pbi.random) ∧
          (∀ id left, s.slu.session = .pending id left →
            (s.mfe.line = .good ∧ s.imon.clearance = true ∧ s.latched .dupId = false ∧
                s.latched .thermSensor = false ∧ s.latched .frontEnd = false → Opens id s t) ∧
            (¬ (s.mfe.line = .good ∧ s.imon.clearance = true ∧ s.latched .dupId = false ∧
                s.latched .thermSensor = false ∧ s.latched .frontEnd = false) → t.slu = s.slu)) ∧
          (s.slu.session.isPending = false → t.slu = s.slu))) ∧
      (s.mdu.mode ≠ .listening ∨ s.mdu.listening < 2 →
        t.imon = s.imon ∧ t.slu = s.slu ∧ t.pbi.random = s.pbi.random) ∧
      (s.mdu.mode ≠ .listening → t.mdu.mode = s.mdu.mode ∧ t.mdu.listening = s.mdu.listening) ∧
      (∀ r, s.pvt.record = some r →
        (∀ x, r.status = .conflicted x →
          (showsInlet s.pvt.view r.source = true ∧ showsInlet t.pvt.view r.source = false) ∨
            (showsInlet s.pvt.view x = true ∧ showsInlet t.pvt.view x = false) →
          t.pvt.record = some { r with status := .resolving }) ∧
        ((∀ x, r.status = .conflicted x →
            (showsInlet s.pvt.view r.source = true → showsInlet t.pvt.view r.source = true) ∧
              (showsInlet s.pvt.view x = true → showsInlet t.pvt.view x = true)) →
          t.pvt.record = some r)) ∧
      (s.claimBarred = false →
        ClaimAfter (sharers s.mdu.phase (if ageFirst then t.pvt.view else s.pvt.view))
          (s.ownLimit - s.mdu.cfg.margin) s.mdu.cfg.ramp s.mdu.cfg.cmax s.she.demand s.she.claim s.she.wanting
          t.she.claim) ∧
      t.she.demand = s.she.demand ∧ t.she.wanting = decide (t.she.claim < t.she.demand) ∧
      t.she.drawn = min t.she.claim t.she.claimTx ∧ t.she.claimTx = s.she.claimTx ∧
      t.she.claim ≤ s.she.claim + s.mdu.cfg.ramp ∧ t.she.claim ≤ s.mdu.cfg.cmax ∧
      t.she.claim ≤ s.she.demand ∧ t.she.claim ≤ s.ownLimit - s.mdu.cfg.margin ∧
      (s.claimBarred = true → t.she.claim = 0) ∧
      (s.ownLimit ≤ s.mdu.cfg.margin +
          othersClaim (samePhase s.mdu.phase (if ageFirst then t.pvt.view else s.pvt.view)) + s.she.claim →
        t.she.claim ≤ s.she.claim) ∧
      t.flu = s.flu ∧ t.clock = s.clock ∧ t.store = s.store ∧ t.pins = s.pins ∧ t.mfe.line = s.mfe.line

/-- R49, R79, R81, R139, R141: when the loss timer runs out the record is NONE: the claim is 0, and outside
CONFIG_HOLD no session is PENDING or OPEN; the view, the clock and the halted id stay. The hypothesis on the dormant
timer excludes an entry into DORMANT in the same step (R173). A timer that an arrival has restarted at this instant,
with its 1000 ms left, does not run out. That the command acts once time has passed since the timer was set, whatever
time is left, is the model's choice (log 2). -/
def Obligations.ContractLoss : Prop :=
  ∀ (left : Nat) (s : State), s.pvt.lossTimer = some left → s.mdu.dormantTimer ≠ .expired →
    (left = 1000000 → exec .contractLoss s = .next s) ∧
    (left < 1000000 → ∃ t, exec .contractLoss s = .next t ∧ t.pvt = { s.pvt with record := none, lossTimer := none } ∧
      t.she.claim = 0 ∧
      (s.mdu.mode = .listening ∨ s.mdu.mode = .run ∨ s.mdu.mode = .powerHold →
        t.slu.session.isOpen = false ∧ t.slu.session.isPending = false) ∧
      t.clock = s.clock ∧ t.mdu = s.mdu ∧ t.pins = s.pins)

/-- R52, R53, R126, R128, R130: in every mode the local time advances by one second, day 65535 wrapping to 0, and the one-second
timer begins again. While a session is metered, an interval that ends within the last interval length up to the new
second offers its count, scaled by 60/L, to the peak, and the next begins with the count 0; nothing else changes. At the
instant of a set, which restarts the one-second timer, the advance is not applied. An accepted contract's set that is a
time jump ends the running interval of a session that stays OPEN as a partial one, its count unscaled, and aligns the
next to the new time; a set that is none, or a time that is not taken, leaves the meter alone. That the command acts
once time has passed since the timer was set, whatever time is left, is the model's choice (log 2). -/
def Obligations.OneSecondAdvance : Prop :=
  (∀ s : State, s.clock.toAdvance = 1000000 → exec .oneSecondAdvance s = .next s) ∧
  (∀ (minutes : Nat) (c : Clock) (s : State),
    DemandMinutes s.mdu.cfg.demandCode minutes → s.clock.toAdvance < 1000000 →
    c = { s.clock with
      second := if s.clock.second < 86399 then s.clock.second + 1 else 0,
      day := if s.clock.second < 86399 then s.clock.day else if s.clock.day < 65535 then s.clock.day + 1 else 0,
      toAdvance := 1000000 } →
    (s.emt.active = false → exec .oneSecondAdvance s = .next { s with clock := c }) ∧
    ∀ i, s.emt.active = true → s.emt.interval = some i →
      (60 * minutes ≤ (c.second + 86400 - i.finish) % 86400 →
        exec .oneSecondAdvance s = .next { s with clock := c }) ∧
      ((c.second + 86400 - i.finish) % 86400 < 60 * minutes →
        ∃ t, exec .oneSecondAdvance s = .next t ∧
          PeakAfter s.emt.peak i (s.emt.count * 60 / minutes) t.emt.peak ∧
          t = { s with
            clock := c, emt.count := 0,
            emt.peak := t.emt.peak,
            emt.index := if i.basis = .day then s.emt.index else s.emt.index + 1,
            emt.interval := some
              { finish := (i.finish + 60 * minutes) % 86400,
                start := if i.basis = .day then i.finish / 60 else (s.emt.index + 1) * minutes,
                basis := i.basis } })) ∧
  ∀ (telegram p : List Byte) (source minutes : Nat) (o : OpenRecord) (left : Option Nat) (i : Interval) (s : State),
    s.Hears → source ≠ s.mdu.station → DemandMinutes s.mdu.cfg.demandCode minutes →
    checkTelegram telegram = some { source := source, kind := .contract, payload := p } →
    Accepts s.pvt.view s.pvt.record source (rd8 p 0) →
    s.slu.session = .opened o left → rd8 p 1 ≠ 0 → rd32 p 2 = o.id → s.emt.active = true → s.emt.interval = some i →
    ∃ t, exec (.contractArrival telegram) s = .next t ∧ t.slu = s.slu ∧
      (rd32 p 14 ≤ 86399 →
        s.clock.valid = false ∨ s.clock.day * 86400 + s.clock.second + 2 < rd16 p 12 * 86400 + rd32 p 14 ∨
          rd16 p 12 * 86400 + rd32 p 14 + 2 < s.clock.day * 86400 + s.clock.second →
        ∃ i', t.emt = { s.emt with count := 0, peak := t.emt.peak, interval := some i' } ∧
          PeakAfter s.emt.peak i s.emt.count t.emt.peak ∧ AlignedTo (60 * minutes) (rd32 p 14) i') ∧
      (86399 < rd32 p 14 ∨
          (s.clock.valid = true ∧ s.clock.day * 86400 + s.clock.second ≤ rd16 p 12 * 86400 + rd32 p 14 + 2 ∧
            rd16 p 12 * 86400 + rd32 p 14 ≤ s.clock.day * 86400 + s.clock.second + 2) →
        t.emt = s.emt)

/-- R90, R91, R87, R88: an overdraw timer that runs out begins the overdraw condition and latches OVERDRAW; an OPEN
session ends, and with it CHG_EN opens and the current reference and the claim are 0. The hypothesis on the dormant
timer excludes an entry into DORMANT in the same step (R173). That the command acts once time has passed since the
timer was set, whatever time is left, is the model's choice (log 2); that the session ends with OVERDRAW latched already
as well as at the latch is the model's reading of R91 (log 20). -/
def Obligations.OverdrawEvent : Prop :=
  ∀ (left : Nat) (s : State), s.she.overdrawTimer = some left → left < 1000000 → s.mdu.dormantTimer ≠ .expired →
    ∃ t, exec .overdrawTimerExpiry s = .next t ∧ t.she.overdrawTimer = none ∧ t.she.overdraw = true ∧
      t.latched .overdraw = true ∧
      (s.slu.session.isOpen = true →
        t.slu.session.isOpen = false ∧ t.she.claim = 0 ∧ t.she.demand = 0 ∧ t.she.idcSet = 0 ∧
        t.she.chgEn = false ∧ t.she.iRef = 0 ∧ t.she.hold = false ∧ t.thu.inForce = 0) ∧
      t.mdu = s.mdu ∧ t.pvt = s.pvt ∧ t.clock = s.clock ∧ t.pins = s.pins

/-- R139, R116: the pending timer returns the session to IDLE and withdraws the clearance. R142, R143, R144, R146,
R149, R129, R132, R135: the line-loss timer ends the OPEN session. With the closing buffer occupied it waits in ENDED; with it free its
record, numbered newest + 1 and holding the meter's totals, begins its write: the target is the lowest empty slot,
otherwise the oldest record's, which leaves the table, and only the target's marker is cleared. The meter ends its last
interval unscaled, discards its residues and holds its totals while the session waits, and is at its start values once
the record has moved. That each command acts once time has passed since its timer was set, whatever time is left, is the
model's choice (log 2). -/
def Obligations.SessionTimers : Prop :=
  (∀ (id left : Nat) (s : State), s.slu.session = .pending id left → left < 60000000 →
    s.mdu.dormantTimer ≠ .expired →
    ∃ t, exec .pendingTimerExpiry s = .next t ∧ t.slu = { s.slu with session := .idle } ∧
      t.imon.clearance = false ∧ t.imon.seq = s.imon.seq ∧ t.flu = s.flu ∧ t.emt = s.emt ∧ t.pvt = s.pvt ∧
      t.mdu = s.mdu ∧ t.pbi = s.pbi ∧ t.mfe = s.mfe ∧ t.clock = s.clock ∧ t.store = s.store) ∧
  ∀ (r : OpenRecord) (left : Nat) (i : Interval) (s : State),
    s.slu.session = .opened r (some left) → left < 30000000 → s.mdu.dormantTimer ≠ .expired →
    s.emt.interval = some i →
    (∀ b, s.slu.buffer = some b →
      ∃ t closed, exec .lineLossTimerExpiry s = .next t ∧
        t.slu = { s.slu with session := .ended r .lineLost closed } ∧
        closed = (if s.clock.valid then { day := s.clock.day, second := s.clock.second, valid := true }
          else { day := 0, second := 0, valid := false }) ∧
        t.emt = { s.emt with
          peak := t.emt.peak, acc := 0, heatAcc := 0, count := 0, interval := none, active := false, held := true,
          heatTotal := min s.emt.heatCount (s.emt.imp0 + s.emt.imp1 + s.emt.imp2 + s.emt.imp3) } ∧
        PeakAfter s.emt.peak i s.emt.count t.emt.peak ∧ t.store = s.store ∧ t.flu = s.flu ∧ t.mdu = s.mdu) ∧
    (s.slu.buffer = none → newestSeq s.slu.table < 4294967295 → s.slu.table.length = 16 →
      Memory.wf s.store = true →
      ∃ t b, exec .lineLossTimerExpiry s = .next t ∧ t.slu.session.isOpen = false ∧ t.slu.buffer = some b ∧
        b.failedSlot = none ∧ b.left = 8000 ∧ b.record.reason = .lineLost ∧ b.record.id = r.id ∧
        b.record.seq = newestSeq s.slu.table + 1 ∧ b.record.station = r.station ∧ b.record.phase = r.phase ∧
        b.record.opened = r.opened ∧ b.record.minIns = r.minIns ∧ b.record.flags = r.flags ∧
        b.record.imp0 = s.emt.imp0 ∧ b.record.imp1 = s.emt.imp1 ∧ b.record.imp2 = s.emt.imp2 ∧
        b.record.imp3 = s.emt.imp3 ∧ b.record.exp = s.emt.exp ∧
        b.record.heat = min s.emt.heatCount (s.emt.imp0 + s.emt.imp1 + s.emt.imp2 + s.emt.imp3) ∧
        PeakAfter s.emt.peak i s.emt.count b.record.peak ∧
        ((slotEntry s.slu.table b.target = none ∧ ∀ k < b.target, slotEntry s.slu.table k ≠ none) ∨
          ((∀ k, slotEntry s.slu.table k ≠ none) ∧
            ∃ n, slotEntry s.slu.table b.target = some n ∧ ∀ k m, slotEntry s.slu.table k = some m → n ≤ m)) ∧
        t.slu.table = s.slu.table.set b.target.val none ∧ readByte t.store (48 * b.target.val + 47) = 0 ∧
        (∀ a, a ≠ 48 * b.target.val + 47 → readByte t.store a = readByte s.store a) ∧ 
        t.emt = { State.reset.emt with qraw := s.emt.qraw } ∧ t.flu = s.flu ∧ t.mdu = s.mdu ∧ t.clock = s.clock)

/-- R149, R150, R146: a successful write commits the record, enters its sequence in the table and frees the buffer,
and a session waiting in ENDED takes the buffer over with the next sequence; a failed first write is tried once more
on the lowest empty slot other than the failed one, otherwise on the oldest record's; a failed second write drops the
record, frees the buffer and latches LOG. The hypothesis on the dormant timer excludes an entry into DORMANT in the
same step (R173). That the completion acts whatever time is left is the model's choice (log 2), and the bytes reach
the slot at the completion (log 22). -/
def Obligations.StoreWrite : Prop :=
  ∀ (b : Buffer) (s : State), s.slu.buffer = some b → s.mdu.dormantTimer ≠ .expired → s.slu.table.length = 16 →
    ((∀ r x c, s.slu.session ≠ .ended r x c) →
      exec (.storeWriteCompletion true) s = .next
        { s with
          store := commitRecord s.store b.target b.record.bytes,
          slu.table := s.slu.table.set b.target.val (some b.record.seq), slu.buffer := none } ∧
      (∀ slot, b.failedSlot = some slot →
        ∃ t, exec (.storeWriteCompletion false) s = .next t ∧ t.slu.buffer = none ∧
          t.slu.table = s.slu.table ∧ t.store = s.store ∧ t.latched .log = true ∧ t.mdu = s.mdu ∧
          t.clock = s.clock)) ∧
    (∀ r reason closed, s.slu.session = .ended r reason closed →
      newestSeq (s.slu.table.set b.target.val (some b.record.seq)) < 4294967295 →
      ∃ t x, exec (.storeWriteCompletion true) s = .next t ∧ t.slu.buffer = some x ∧ x.record.id = r.id ∧
        x.record.reason = reason ∧ x.record.closed = closed ∧
        x.record.seq = newestSeq (s.slu.table.set b.target.val (some b.record.seq)) + 1 ∧
        (∀ r' x' c', t.slu.session ≠ .ended r' x' c')) ∧
    (b.failedSlot = none →
      ∃ k : Fin 16,
        exec (.storeWriteCompletion false) s = .next
          { s with
            slu.buffer := some { record := b.record, target := k, failedSlot := some b.target, left := 8000 },
            slu.table := s.slu.table.set k.val none, store := writeByte s.store (48 * k.val + 47) 0 } ∧
        ((slotEntry s.slu.table k = none ∧ k ≠ b.target ∧
            ∀ j < k, slotEntry s.slu.table j ≠ none ∨ j = b.target) ∨
          ((∀ j, slotEntry s.slu.table j ≠ none ∨ j = b.target) ∧
            ∃ n, slotEntry s.slu.table k = some n ∧ ∀ j m, slotEntry s.slu.table j = some m → n ≤ m)))

/-- R178, R148, R153: a record is 47 bytes; committed to a slot it is found there by its marker with its sequence and
read back as written, every other slot keeps its bytes, and the store keeps its canonical form. -/
def Obligations.CommittedRecord : Prop :=
  ∀ (m : Memory) (slot : Fin 16) (r : SessionRecord), Memory.wf m = true → r.seq ≤ 4294967295 →
    r.bytes.length = 47 ∧ Memory.wf (commitRecord m slot r.bytes) = true ∧
    committedSeq (commitRecord m slot r.bytes) slot = some r.seq ∧
    readBytes (commitRecord m slot r.bytes) (48 * slot.val) 47 = r.bytes ∧
    ∀ a, (a < 48 * slot.val ∨ 48 * slot.val + 48 ≤ a) → readByte (commitRecord m slot r.bytes) a = readByte m a

/-- R172, R173, R1, R21, R39, R54, R72, R95: a dormant timer that runs out in RUN with the session IDLE, PLUG
inactive, the closing buffer free, the sequencer OFF or WAITING and a wake source enabled makes the station DORMANT:
the converters, the bus, the thermal unit and the share engine stand at their start values, the view and the record
are empty, the sequencer is OFF with the insulation state UNKNOWN, and the clock, the flags, the log and the meter
stay. With a condition missing only the timer's expiry is kept, and a release of PLUG that completes the conditions
makes the entry. That the expiry acts once time has passed since the timer was set, whatever time is left, is the
model's choice (log 2). -/
def Obligations.DormantEntry : Prop :=
  ∀ s : State,
    (∀ left, s.mdu.dormantTimer = .running left → left < s.mdu.cfg.dormantTimeout * 1000000 → s.mdu.mode = .run → s.pins.plug = true ∨
        s.slu.session ≠ .idle ∨ s.slu.buffer ≠ none ∨ (s.mdu.cfg.wakeBus = false ∧ s.mdu.cfg.wakePlug = false) →
      exec .dormantTimerExpiry s = .next { s with mdu.dormantTimer := .expired }) ∧
    (s.mdu.mode = .run → s.slu.session = .idle → s.slu.buffer = none →
      s.imon.seq = .off ∨ (∃ left, s.imon.seq = .waiting left) →
      s.mdu.cfg.wakeBus = true ∨ s.mdu.cfg.wakePlug = true →
      ∀ c, (c = .dormantTimerExpiry ∧ (∃ left, s.mdu.dormantTimer = .running left ∧ left < s.mdu.cfg.dormantTimeout * 1000000) ∧ s.pins.plug = false) ∨
          (c = .plugRelease ∧ s.mdu.dormantTimer = .expired ∧ s.pins.plug = true) →
        exec c s = .next
          { s with
            pins.plug := false,
            mdu.mode := .dormant, mdu.settling := none, mdu.beaconTimer := none, mdu.dormantTimer := .stopped,
            mfe := State.reset.mfe, pbi := { State.reset.pbi with random := s.pbi.random },
            pvt := State.reset.pvt, thu := State.reset.thu, she := State.reset.she,
            imon := { State.reset.imon with
              intentSeq := s.imon.intentSeq, sums := s.imon.sums, noResponse := s.imon.noResponse } })

/-- R174, R173: a station asleep begins its 2 ms of settling at a telegram start when wake on bus is 1 and at a PLUG
assertion when wake on plug is 1; awake, or with the wake off, the telegram start changes nothing and PLUG only its
level. A release of PLUG changes only the level while the dormant timer has not run out. That a command which the
spec's event does not reach, such as the telegram start in another mode, changes nothing is the model's choice
(log 25). -/
def Obligations.WakeEvents : Prop :=
  ∀ s : State,
    (s.mdu.mode = .dormant → s.mdu.settling = none →
      exec .telegramStartEvent s = .next
        { s with mdu.settling := if s.mdu.cfg.wakeBus then some 2000 else none } ∧
      exec .plugAssertion s = .next
        { s with pins.plug := true, mdu.settling := if s.mdu.cfg.wakePlug then some 2000 else none }) ∧
    (s.mdu.mode ≠ .dormant ∨ s.mdu.settling ≠ none →
      exec .telegramStartEvent s = .next s ∧
      exec .plugAssertion s = .next { s with pins.plug := true }) ∧
    (s.mdu.dormantTimer ≠ .expired → exec .plugRelease s = .next { s with pins.plug := false })

/-- R174, R166, R169, R157, R158, R171: the end of settling makes the mode LISTENING with the listening count 0, the
converters, the bus and the beacon timer started and ALERT by the mask. A held PWR_FAIL is examined then: with the
input active the mode becomes POWER_HOLD at once, with it inactive the assertion is dropped. (No session is OPEN
outside RUN: `SessionKept`.) That the command acts once time has passed since settling began, whatever time is left, is
the model's choice (log 2). -/
def Obligations.ListeningBegins : Prop :=
  ∀ (left : Nat) (s : State), s.mdu.mode = .dormant → s.mdu.settling = some left → left < 2000 →
    s.slu.session.isOpen = false →
    ∃ t, exec .wakeSettlingEnd s = .next t ∧
      t.mdu.mode = (if s.mdu.heldPwrFail = true ∧ s.pins.pwrFail = true then .powerHold else .listening) ∧
      t.mdu.heldPwrFail = false ∧ t.mdu.settling = none ∧ t.mdu.listening = 0 ∧
      t.mdu.beaconTimer = some (64000 * 2 ^ s.mdu.cfg.beaconCode) ∧ t.mdu.cfg = s.mdu.cfg ∧
      t.mfe.count = 0 ∧ t.mfe.line = .absent ∧ t.mfe.scanning = true ∧ t.mfe.scanTimer = some 10000 ∧
      t.thu.stepTimer = some 62500 ∧ t.thu.htr = false ∧ t.pbi = PeerBus.start s.pbi.random ∧
      t.flu.flags = s.flu.flags ∧ t.flu.alert = (s.flu.flags &&& ~~~ s.mdu.cfg.alertMask != 0) ∧
      t.clock = s.clock ∧ t.store = s.store ∧ t.slu.table = s.slu.table ∧ t.pins = s.pins

/-- R171, R93, R71, R96, R152: a PWR_FAIL assertion in LISTENING or RUN makes the mode POWER_HOLD: the dormant timer
stops, the share engine's claim, duty and setpoint are 0 with CHG_EN open, HTR opens, the sequencer is OFF with
ISO_SW open, and no session is PENDING or OPEN. In START and DORMANT the assertion is held, in CONFIG_HOLD and
POWER_HOLD only the input's level changes, and so does a release in every mode. -/
def Obligations.PowerFail : Prop :=
  ∀ s : State,
    (s.mdu.mode = .listening ∨ s.mdu.mode = .run →
      ∃ t, exec .pwrFailAssertion s = .next t ∧ t.mdu.mode = .powerHold ∧ t.mdu.dormantTimer = .stopped ∧
        t.she.demand = 0 ∧ t.she.claim = 0 ∧ t.she.drawn = 0 ∧ t.she.dutyApplied = 0 ∧ t.she.idcSet = 0 ∧
        t.she.chgEn = false ∧ t.she.iRef = 0 ∧ t.she.overdrawTimer = none ∧ t.she.hold = false ∧
        t.thu.inForce = 0 ∧ t.thu.htr = false ∧ t.imon.seq = .off ∧ t.imon.isoSw = .opened ∧
        t.imon.injecting = false ∧ t.slu.session.isOpen = false ∧ t.slu.session.isPending = false ∧
        t.emt.active = (s.emt.active && !s.slu.session.isOpen) ∧ t.pvt = s.pvt ∧ t.clock = s.clock ∧
        t.pins = { s.pins with pwrFail := true }) ∧
    (s.mdu.mode = .start ∨ s.mdu.mode = .dormant →
      exec .pwrFailAssertion s = .next { s with pins.pwrFail := true, mdu.heldPwrFail := true }) ∧
    (s.mdu.mode = .configHold ∨ s.mdu.mode = .powerHold →
      exec .pwrFailAssertion s = .next { s with pins.pwrFail := true }) ∧
    exec .pwrFailRelease s = .next { s with pins.pwrFail := false }

/-- R121, R123, R125, R131: while a session is metered, each sample adds v·i to the energy exactly: the accumulator and
the quanta counted together grow by it, the accumulator stays inside one quantum, import goes to the class in force
alone, and each import quantum counts once in the running interval. The class is 0 without valid time or windows, and
otherwise that of the latest window begun by the current minute, before the first start that of the last window. Each
scan complete of a session that stays OPEN adds Ph_applied to the heating energy, as it stands before or after the
scan's conversion. -/
def Obligations.EnergyMetered : Prop :=
  (∀ (v i : Int) (meterFirst : Bool) (s : State),
    s.mdu.mode.runs = true → s.emt.active = true → s.slu.session.isOpen = true →
    -32768 ≤ v → v ≤ 32767 → -32768 ≤ i → i ≤ 32767 →
    1073741824 < s.emt.qraw → -(s.emt.qraw : Int) < s.emt.acc → s.emt.acc < s.emt.qraw →
    ∃ t, exec (.meteringSample v i meterFirst) s = .next t ∧ t.emt.qraw = s.emt.qraw ∧
      t.emt.acc + t.emt.qraw * ((t.emt.imp0 + t.emt.imp1 + t.emt.imp2 + t.emt.imp3 : Nat) - (t.emt.exp : Int)) =
        s.emt.acc + s.emt.qraw *
          ((s.emt.imp0 + s.emt.imp1 + s.emt.imp2 + s.emt.imp3 : Nat) - (s.emt.exp : Int)) + v * i ∧
      -(t.emt.qraw : Int) < t.emt.acc ∧ t.emt.acc < t.emt.qraw ∧
      (s.tariffClass ≠ 0 → t.emt.imp0 = s.emt.imp0) ∧ (s.tariffClass ≠ 1 → t.emt.imp1 = s.emt.imp1) ∧
      (s.tariffClass ≠ 2 → t.emt.imp2 = s.emt.imp2) ∧ (s.tariffClass < 3 → t.emt.imp3 = s.emt.imp3) ∧
      t.emt.count + s.emt.importSum = s.emt.count + t.emt.importSum ∧ t.emt.active = true ∧
      t.emt.heatCount = s.emt.heatCount ∧ t.emt.interval = s.emt.interval ∧ t.emt.peak = s.emt.peak) ∧
  (∀ s : State,
    (s.clock.valid = false ∨ s.pvt.record = none ∨ (∃ r, s.pvt.record = some r ∧ r.windows = []) →
      s.tariffClass = 0) ∧
    ∀ r, s.clock.valid = true → s.pvt.record = some r → r.windows.Pairwise (fun a b => a.start < b.start) →
      (∀ w ∈ r.windows, w.start ≤ s.clock.second / 60 →
        (∀ x ∈ r.windows, x.start ≤ s.clock.second / 60 → x.start ≤ w.start) → s.tariffClass = w.cls) ∧
      (∀ w, r.windows.getLast? = some w → (∀ x ∈ r.windows, s.clock.second / 60 < x.start) →
        s.tariffClass = w.cls)) ∧
  ∀ (ustr t1 t2 t3 t4 th ref : BitVec 12) (meterFirst : Bool) (s : State),
    s.mdu.mode = .run → s.emt.active = true → s.slu.session.isOpen = true → s.emt.heatAcc < 360000 →
    ∃ t, exec (.scanComplete ustr t1 t2 t3 t4 th ref meterFirst) s = .next t ∧
      (t.slu.session.isOpen = true →
        ∀ ph, ph = (if meterFirst then s.she.phApplied else t.she.phApplied) → ph ≤ 360000 →
          t.emt.heatAcc + 360000 * t.emt.heatCount = s.emt.heatAcc + 360000 * s.emt.heatCount + ph ∧
          t.emt.heatAcc < 360000 ∧ t.emt.acc = s.emt.acc ∧ t.emt.importSum = s.emt.importSum ∧
          t.emt.count = s.emt.count ∧ t.emt.peak = s.emt.peak)

/-! ## Every command, and the queue -/

/-- Every command answers a next state from every state, with the queue and the free index as they were (`step` alone
takes a command from the queue). That no command stops the block, one that the spec's event does not reach changing
nothing, is the model's choice (log 25). -/
def Obligations.QueueUntouched : Prop :=
  ∀ (c : Instr) (s : State), ∃ t, exec c s = .next t ∧ t.pending = s.pending ∧ t.freeIndex = s.freeIndex

/-- The queue is first in, first out: a step with a command at the front of the queue is that command's effect with
the rest of the queue waiting. -/
def Obligations.StepRunsFrontCommand : Prop :=
  ∀ (c : Instr) (rest : List Instr) (s : State), s.pending = c :: rest →
    step s = exec c { s with pending := rest }

/-! ## What no step can break -/

/-- Each invariant below holds at reset (R94, R96, R69, R74, R87, R88, R115, R120, R138, R158, R146, R149, R39). -/
def Obligations.ResetSafe : Prop :=
  State.reset.InjectionSafe ∧ State.reset.HeaterSafe ∧ State.reset.ChargeSafe ∧ State.reset.SessionSafe ∧
  State.reset.OpeningSafe ∧
  State.reset.AlertSafe ∧ State.reset.LogDistinct ∧ State.reset.LogHeld ∧ State.reset.ViewSafe

/-- R94, R96, R104: whatever step is taken, ISO_SW and the injecting flag stay those of the sequencer's state, so
that the high voltage is switched in INJECTING alone, and the sequencer stays OFF outside RUN and while INJECTOR,
DUP_ID or CONFIG is latched. -/
def Obligations.InjectionKept : Prop :=
  ∀ s t : State, s.InjectionSafe → step s = .next t → t.InjectionSafe

/-- R68, R69, R70: whatever step is taken, the duty in force stays 0 outside RUN, OPEN and HEAT_ON and is
duty_applied there, and HTR stays open in every step whose index is not below it. -/
def Obligations.HeaterKept : Prop :=
  ∀ s t : State, s.HeaterSafe → step s = .next t → t.HeaterSafe

/-- R74, R79, R83, R87, R88: whatever step is taken, the claim stays within Cmax and the pool and 0 under a zeroing
condition, what is drawn stays the lesser of the claim and the claim transmitted, and CHG_EN and the current
reference follow Idc_set, which is 0 while nothing is drawn. -/
def Obligations.ChargeKept : Prop :=
  ∀ s t : State, s.ChargeSafe → step s = .next t → t.ChargeSafe

/-- R115, R116, R120, R138, R141: whatever step is taken, a session is OPEN in RUN alone and never while the
insulation state is FAULT, and the energy meter is active exactly while a session is OPEN; and no session stays PENDING
with its opening test passing. -/
def Obligations.SessionKept : Prop :=
  (∀ s t : State, s.SessionSafe → step s = .next t → t.SessionSafe) ∧
  ∀ s t : State, s.OpeningSafe → step s = .next t → t.OpeningSafe

/-- R157, R158: whatever step is taken, ALERT stays asserted exactly while a latched flag is outside the mask in
force, and released in START. -/
def Obligations.AlertKept : Prop :=
  ∀ s t : State, s.AlertSafe → step s = .next t → t.AlertSafe

/-- R146, R148, R149, R178, R36, R37, R38: whatever step is taken, every slot that the table gives a sequence holds a
committed record of that sequence in a store of canonical form; outside START no sequence is held twice, and the record
in the closing buffer has a sequence above every one held; and the peer view keeps its form, with ids that rise
strictly, none of them the own id, ages below 8 and a module part with MODULE entries alone. -/
def Obligations.LogKept : Prop :=
  (∀ s t : State, s.LogHeld → step s = .next t → t.LogHeld) ∧
  (∀ s t : State, s.LogDistinct → s.mdu.mode ≠ .start → step s = .next t → t.mdu.mode ≠ .start → t.LogDistinct) ∧
  ∀ s t : State, s.ViewSafe → step s = .next t → t.ViewSafe
end

