-- ==== Sys2Proof/Laws/Frames.lean ====
section
/-! SUPPORT. What each shared operation leaves alone: one lemma an operation, naming every part of the state
that it never touches. As `simp` lemmas they let a proof read a part through an operation without unfolding
it. -/

namespace Sys2Proof.Machine

/-! ## Fault unit -/

@[simp] theorem State.updateAlert_rest (s : State) :
    s.updateAlert.pins = s.pins ∧ s.updateAlert.mdu = s.mdu ∧ s.updateAlert.mfe = s.mfe ∧
    s.updateAlert.pbi = s.pbi ∧ s.updateAlert.pvt = s.pvt ∧ s.updateAlert.clock = s.clock ∧
    s.updateAlert.thu = s.thu ∧ s.updateAlert.she = s.she ∧ s.updateAlert.imon = s.imon ∧
    s.updateAlert.emt = s.emt ∧ s.updateAlert.slu = s.slu ∧ s.updateAlert.store = s.store ∧
    s.updateAlert.freeIndex = s.freeIndex ∧ s.updateAlert.pending = s.pending := by
  unfold State.updateAlert
  simp

/-! ## Peer bus interface -/

@[simp] theorem State.draw_rest (s : State) :
    s.draw.pins = s.pins ∧ s.draw.mdu = s.mdu ∧ s.draw.mfe = s.mfe ∧ s.draw.pvt = s.pvt ∧
    s.draw.clock = s.clock ∧ s.draw.thu = s.thu ∧ s.draw.she = s.she ∧ s.draw.imon = s.imon ∧
    s.draw.emt = s.emt ∧ s.draw.slu = s.slu ∧ s.draw.flu = s.flu ∧ s.draw.store = s.store ∧
    s.draw.freeIndex = s.freeIndex ∧ s.draw.pending = s.pending := by
  unfold State.draw
  simp

@[simp] theorem State.loadIntent_rest (s : State) (p : List Byte) :
    (s.loadIntent p).pins = s.pins ∧ (s.loadIntent p).mdu = s.mdu ∧ (s.loadIntent p).mfe = s.mfe ∧
    (s.loadIntent p).pvt = s.pvt ∧ (s.loadIntent p).clock = s.clock ∧ (s.loadIntent p).thu = s.thu ∧
    (s.loadIntent p).she = s.she ∧ (s.loadIntent p).imon = s.imon ∧ (s.loadIntent p).emt = s.emt ∧
    (s.loadIntent p).slu = s.slu ∧ (s.loadIntent p).flu = s.flu ∧ (s.loadIntent p).store = s.store ∧
    (s.loadIntent p).freeIndex = s.freeIndex ∧ (s.loadIntent p).pending = s.pending := by
  unfold State.loadIntent
  repeat' split
  all_goals simp

@[simp] theorem State.withdrawIntent_rest (s : State) :
    s.withdrawIntent.pins = s.pins ∧ s.withdrawIntent.mdu = s.mdu ∧ s.withdrawIntent.mfe = s.mfe ∧
    s.withdrawIntent.pvt = s.pvt ∧ s.withdrawIntent.clock = s.clock ∧ s.withdrawIntent.thu = s.thu ∧
    s.withdrawIntent.she = s.she ∧ s.withdrawIntent.imon = s.imon ∧ s.withdrawIntent.emt = s.emt ∧
    s.withdrawIntent.slu = s.slu ∧ s.withdrawIntent.flu = s.flu ∧ s.withdrawIntent.store = s.store ∧
    s.withdrawIntent.freeIndex = s.freeIndex ∧ s.withdrawIntent.pending = s.pending := by
  unfold State.withdrawIntent
  repeat' split
  all_goals simp

@[simp] theorem State.loadResult_rest (s : State) (p : List Byte) :
    (s.loadResult p).pins = s.pins ∧ (s.loadResult p).mdu = s.mdu ∧ (s.loadResult p).mfe = s.mfe ∧
    (s.loadResult p).pvt = s.pvt ∧ (s.loadResult p).clock = s.clock ∧ (s.loadResult p).thu = s.thu ∧
    (s.loadResult p).she = s.she ∧ (s.loadResult p).imon = s.imon ∧ (s.loadResult p).emt = s.emt ∧
    (s.loadResult p).slu = s.slu ∧ (s.loadResult p).flu = s.flu ∧ (s.loadResult p).store = s.store ∧
    (s.loadResult p).freeIndex = s.freeIndex ∧ (s.loadResult p).pending = s.pending := by
  unfold State.loadResult
  repeat' split
  all_goals simp

@[simp] theorem State.requestBeacon_rest (s : State) :
    s.requestBeacon.pins = s.pins ∧ s.requestBeacon.mdu = s.mdu ∧ s.requestBeacon.mfe = s.mfe ∧
    s.requestBeacon.pvt = s.pvt ∧ s.requestBeacon.clock = s.clock ∧ s.requestBeacon.thu = s.thu ∧
    s.requestBeacon.she = s.she ∧ s.requestBeacon.imon = s.imon ∧ s.requestBeacon.emt = s.emt ∧
    s.requestBeacon.slu = s.slu ∧ s.requestBeacon.flu = s.flu ∧ s.requestBeacon.store = s.store ∧
    s.requestBeacon.freeIndex = s.freeIndex ∧ s.requestBeacon.pending = s.pending := by
  unfold State.requestBeacon
  repeat' split
  all_goals simp

@[simp] theorem State.loadReply_rest (s : State) (p : List Byte) :
    (s.loadReply p).pins = s.pins ∧ (s.loadReply p).mdu = s.mdu ∧ (s.loadReply p).mfe = s.mfe ∧
    (s.loadReply p).pvt = s.pvt ∧ (s.loadReply p).clock = s.clock ∧ (s.loadReply p).thu = s.thu ∧
    (s.loadReply p).she = s.she ∧ (s.loadReply p).imon = s.imon ∧ (s.loadReply p).emt = s.emt ∧
    (s.loadReply p).slu = s.slu ∧ (s.loadReply p).flu = s.flu ∧ (s.loadReply p).store = s.store ∧
    (s.loadReply p).freeIndex = s.freeIndex ∧ (s.loadReply p).pending = s.pending := by
  unfold State.loadReply
  simp

@[simp] theorem State.takeUpEnds_rest (s : State) :
    s.takeUpEnds.pins = s.pins ∧ s.takeUpEnds.mdu = s.mdu ∧ s.takeUpEnds.mfe = s.mfe ∧
    s.takeUpEnds.pvt = s.pvt ∧ s.takeUpEnds.clock = s.clock ∧ s.takeUpEnds.thu = s.thu ∧
    s.takeUpEnds.she = s.she ∧ s.takeUpEnds.imon = s.imon ∧ s.takeUpEnds.emt = s.emt ∧
    s.takeUpEnds.slu = s.slu ∧ s.takeUpEnds.flu = s.flu ∧ s.takeUpEnds.store = s.store ∧
    s.takeUpEnds.freeIndex = s.freeIndex ∧ s.takeUpEnds.pending = s.pending := by
  unfold State.takeUpEnds
  simp

@[simp] theorem State.telegramEnds_rest (s : State) :
    s.telegramEnds.pins = s.pins ∧ s.telegramEnds.mdu = s.mdu ∧ s.telegramEnds.mfe = s.mfe ∧
    s.telegramEnds.pvt = s.pvt ∧ s.telegramEnds.clock = s.clock ∧ s.telegramEnds.thu = s.thu ∧
    s.telegramEnds.she = s.she ∧ s.telegramEnds.imon = s.imon ∧ s.telegramEnds.emt = s.emt ∧
    s.telegramEnds.slu = s.slu ∧ s.telegramEnds.flu = s.flu ∧ s.telegramEnds.store = s.store ∧
    s.telegramEnds.freeIndex = s.freeIndex ∧ s.telegramEnds.pending = s.pending := by
  unfold State.telegramEnds
  simp

/-! ## Share engine -/

@[simp] theorem State.applyDuty_rest (s : State) :
    s.applyDuty.pins = s.pins ∧ s.applyDuty.mdu = s.mdu ∧ s.applyDuty.mfe = s.mfe ∧
    s.applyDuty.pbi = s.pbi ∧ s.applyDuty.pvt = s.pvt ∧ s.applyDuty.clock = s.clock ∧
    s.applyDuty.she = s.she ∧ s.applyDuty.imon = s.imon ∧ s.applyDuty.emt = s.emt ∧
    s.applyDuty.slu = s.slu ∧ s.applyDuty.flu = s.flu ∧ s.applyDuty.store = s.store ∧
    s.applyDuty.freeIndex = s.freeIndex ∧ s.applyDuty.pending = s.pending := by
  unfold State.applyDuty
  simp

@[simp] theorem State.convert_rest (s : State) :
    s.convert.pins = s.pins ∧ s.convert.mdu = s.mdu ∧ s.convert.mfe = s.mfe ∧ s.convert.pbi = s.pbi ∧
    s.convert.pvt = s.pvt ∧ s.convert.clock = s.clock ∧ s.convert.imon = s.imon ∧ s.convert.emt = s.emt ∧
    s.convert.slu = s.slu ∧ s.convert.flu = s.flu ∧ s.convert.store = s.store ∧
    s.convert.freeIndex = s.freeIndex ∧ s.convert.pending = s.pending := by
  unfold State.convert
  simp

@[simp] theorem State.setClaim_rest (s : State) (c : Nat) :
    (s.setClaim c).pins = s.pins ∧ (s.setClaim c).mdu = s.mdu ∧ (s.setClaim c).mfe = s.mfe ∧
    (s.setClaim c).pbi = s.pbi ∧ (s.setClaim c).pvt = s.pvt ∧ (s.setClaim c).clock = s.clock ∧
    (s.setClaim c).thu = s.thu ∧ (s.setClaim c).imon = s.imon ∧ (s.setClaim c).emt = s.emt ∧
    (s.setClaim c).slu = s.slu ∧ (s.setClaim c).flu = s.flu ∧ (s.setClaim c).store = s.store ∧
    (s.setClaim c).freeIndex = s.freeIndex ∧ (s.setClaim c).pending = s.pending := by
  unfold State.setClaim
  simp

@[simp] theorem State.setDemand_rest (s : State) (d : Nat) :
    (s.setDemand d).pins = s.pins ∧ (s.setDemand d).mdu = s.mdu ∧ (s.setDemand d).mfe = s.mfe ∧
    (s.setDemand d).pbi = s.pbi ∧ (s.setDemand d).pvt = s.pvt ∧ (s.setDemand d).clock = s.clock ∧
    (s.setDemand d).thu = s.thu ∧ (s.setDemand d).imon = s.imon ∧ (s.setDemand d).emt = s.emt ∧
    (s.setDemand d).slu = s.slu ∧ (s.setDemand d).flu = s.flu ∧ (s.setDemand d).store = s.store ∧
    (s.setDemand d).freeIndex = s.freeIndex ∧ (s.setDemand d).pending = s.pending := by
  unfold State.setDemand
  simp

@[simp] theorem State.recompute_rest (s : State) :
    s.recompute.pins = s.pins ∧ s.recompute.mdu = s.mdu ∧ s.recompute.mfe = s.mfe ∧
    s.recompute.pbi = s.pbi ∧ s.recompute.pvt = s.pvt ∧ s.recompute.clock = s.clock ∧
    s.recompute.imon = s.imon ∧ s.recompute.emt = s.emt ∧ s.recompute.slu = s.slu ∧
    s.recompute.flu = s.flu ∧ s.recompute.store = s.store ∧ s.recompute.freeIndex = s.freeIndex ∧
    s.recompute.pending = s.pending := by
  unfold State.recompute
  repeat' split
  all_goals simp

@[simp] theorem State.periodClaim_rest (s : State) (v : List Entry) :
    (s.periodClaim v).pins = s.pins ∧ (s.periodClaim v).mdu = s.mdu ∧ (s.periodClaim v).mfe = s.mfe ∧
    (s.periodClaim v).pbi = s.pbi ∧ (s.periodClaim v).pvt = s.pvt ∧ (s.periodClaim v).clock = s.clock ∧
    (s.periodClaim v).imon = s.imon ∧ (s.periodClaim v).emt = s.emt ∧ (s.periodClaim v).slu = s.slu ∧
    (s.periodClaim v).flu = s.flu ∧ (s.periodClaim v).store = s.store ∧
    (s.periodClaim v).freeIndex = s.freeIndex ∧ (s.periodClaim v).pending = s.pending := by
  unfold State.periodClaim
  repeat' split
  all_goals simp

@[simp] theorem State.beaconSent_rest (s : State) (c : Nat) :
    (s.beaconSent c).pins = s.pins ∧ (s.beaconSent c).mdu = s.mdu ∧ (s.beaconSent c).mfe = s.mfe ∧
    (s.beaconSent c).pbi = s.pbi ∧ (s.beaconSent c).pvt = s.pvt ∧ (s.beaconSent c).clock = s.clock ∧
    (s.beaconSent c).imon = s.imon ∧ (s.beaconSent c).emt = s.emt ∧ (s.beaconSent c).slu = s.slu ∧
    (s.beaconSent c).flu = s.flu ∧ (s.beaconSent c).store = s.store ∧
    (s.beaconSent c).freeIndex = s.freeIndex ∧ (s.beaconSent c).pending = s.pending := by
  unfold State.beaconSent
  repeat' split
  all_goals simp

@[simp] theorem State.thermalUpdate_rest (s : State) :
    s.thermalUpdate.pins = s.pins ∧ s.thermalUpdate.mdu = s.mdu ∧ s.thermalUpdate.mfe = s.mfe ∧
    s.thermalUpdate.pbi = s.pbi ∧ s.thermalUpdate.pvt = s.pvt ∧ s.thermalUpdate.clock = s.clock ∧
    s.thermalUpdate.imon = s.imon ∧ s.thermalUpdate.emt = s.emt ∧ s.thermalUpdate.slu = s.slu ∧
    s.thermalUpdate.flu = s.flu ∧ s.thermalUpdate.store = s.store ∧
    s.thermalUpdate.freeIndex = s.freeIndex ∧ s.thermalUpdate.pending = s.pending := by
  unfold State.thermalUpdate
  simp

@[simp] theorem State.shareLeavesOpen_rest (s : State) :
    s.shareLeavesOpen.pins = s.pins ∧ s.shareLeavesOpen.mdu = s.mdu ∧ s.shareLeavesOpen.mfe = s.mfe ∧
    s.shareLeavesOpen.pbi = s.pbi ∧ s.shareLeavesOpen.pvt = s.pvt ∧ s.shareLeavesOpen.clock = s.clock ∧
    s.shareLeavesOpen.imon = s.imon ∧ s.shareLeavesOpen.emt = s.emt ∧ s.shareLeavesOpen.slu = s.slu ∧
    s.shareLeavesOpen.flu = s.flu ∧ s.shareLeavesOpen.store = s.store ∧
    s.shareLeavesOpen.freeIndex = s.freeIndex ∧ s.shareLeavesOpen.pending = s.pending := by
  unfold State.shareLeavesOpen
  simp

@[simp] theorem State.shareLeavesRun_rest (s : State) :
    s.shareLeavesRun.pins = s.pins ∧ s.shareLeavesRun.mdu = s.mdu ∧ s.shareLeavesRun.mfe = s.mfe ∧
    s.shareLeavesRun.pbi = s.pbi ∧ s.shareLeavesRun.pvt = s.pvt ∧ s.shareLeavesRun.clock = s.clock ∧
    s.shareLeavesRun.imon = s.imon ∧ s.shareLeavesRun.emt = s.emt ∧ s.shareLeavesRun.slu = s.slu ∧
    s.shareLeavesRun.flu = s.flu ∧ s.shareLeavesRun.store = s.store ∧
    s.shareLeavesRun.freeIndex = s.freeIndex ∧ s.shareLeavesRun.pending = s.pending := by
  unfold State.shareLeavesRun
  simp

@[simp] theorem State.shareShutdown_rest (s : State) :
    s.shareShutdown.pins = s.pins ∧ s.shareShutdown.mdu = s.mdu ∧ s.shareShutdown.mfe = s.mfe ∧
    s.shareShutdown.pbi = s.pbi ∧ s.shareShutdown.pvt = s.pvt ∧ s.shareShutdown.clock = s.clock ∧
    s.shareShutdown.thu = s.thu ∧ s.shareShutdown.imon = s.imon ∧ s.shareShutdown.emt = s.emt ∧
    s.shareShutdown.slu = s.slu ∧ s.shareShutdown.flu = s.flu ∧ s.shareShutdown.store = s.store ∧
    s.shareShutdown.freeIndex = s.freeIndex ∧ s.shareShutdown.pending = s.pending := by
  unfold State.shareShutdown
  simp

@[simp] theorem State.overdrawCheck_rest (s : State) (i : Nat) :
    (s.overdrawCheck i).pins = s.pins ∧ (s.overdrawCheck i).mdu = s.mdu ∧
    (s.overdrawCheck i).mfe = s.mfe ∧ (s.overdrawCheck i).pbi = s.pbi ∧ (s.overdrawCheck i).pvt = s.pvt ∧
    (s.overdrawCheck i).clock = s.clock ∧ (s.overdrawCheck i).thu = s.thu ∧
    (s.overdrawCheck i).imon = s.imon ∧ (s.overdrawCheck i).emt = s.emt ∧
    (s.overdrawCheck i).slu = s.slu ∧ (s.overdrawCheck i).flu = s.flu ∧
    (s.overdrawCheck i).store = s.store ∧ (s.overdrawCheck i).freeIndex = s.freeIndex ∧
    (s.overdrawCheck i).pending = s.pending := by
  unfold State.overdrawCheck
  repeat' split
  all_goals simp

/-! ## Energy meter -/

@[simp] theorem State.meterOpens_rest (s : State) :
    s.meterOpens.pins = s.pins ∧ s.meterOpens.mdu = s.mdu ∧ s.meterOpens.mfe = s.mfe ∧
    s.meterOpens.pbi = s.pbi ∧ s.meterOpens.pvt = s.pvt ∧ s.meterOpens.clock = s.clock ∧
    s.meterOpens.thu = s.thu ∧ s.meterOpens.she = s.she ∧ s.meterOpens.imon = s.imon ∧
    s.meterOpens.slu = s.slu ∧ s.meterOpens.flu = s.flu ∧ s.meterOpens.store = s.store ∧
    s.meterOpens.freeIndex = s.freeIndex ∧ s.meterOpens.pending = s.pending := by
  unfold State.meterOpens
  simp

@[simp] theorem State.meterDeparts_rest (s : State) :
    s.meterDeparts.pins = s.pins ∧ s.meterDeparts.mdu = s.mdu ∧ s.meterDeparts.mfe = s.mfe ∧
    s.meterDeparts.pbi = s.pbi ∧ s.meterDeparts.pvt = s.pvt ∧ s.meterDeparts.clock = s.clock ∧
    s.meterDeparts.thu = s.thu ∧ s.meterDeparts.she = s.she ∧ s.meterDeparts.imon = s.imon ∧
    s.meterDeparts.slu = s.slu ∧ s.meterDeparts.flu = s.flu ∧ s.meterDeparts.store = s.store ∧
    s.meterDeparts.freeIndex = s.freeIndex ∧ s.meterDeparts.pending = s.pending := by
  unfold State.meterDeparts
  simp

@[simp] theorem State.meterIdles_rest (s : State) :
    s.meterIdles.pins = s.pins ∧ s.meterIdles.mdu = s.mdu ∧ s.meterIdles.mfe = s.mfe ∧
    s.meterIdles.pbi = s.pbi ∧ s.meterIdles.pvt = s.pvt ∧ s.meterIdles.clock = s.clock ∧
    s.meterIdles.thu = s.thu ∧ s.meterIdles.she = s.she ∧ s.meterIdles.imon = s.imon ∧
    s.meterIdles.slu = s.slu ∧ s.meterIdles.flu = s.flu ∧ s.meterIdles.store = s.store ∧
    s.meterIdles.freeIndex = s.freeIndex ∧ s.meterIdles.pending = s.pending := by
  unfold State.meterIdles
  simp

@[simp] theorem State.meterSample_rest (s : State) (v i : Int) :
    (s.meterSample v i).pins = s.pins ∧ (s.meterSample v i).mdu = s.mdu ∧
    (s.meterSample v i).mfe = s.mfe ∧ (s.meterSample v i).pbi = s.pbi ∧ (s.meterSample v i).pvt = s.pvt ∧
    (s.meterSample v i).clock = s.clock ∧ (s.meterSample v i).thu = s.thu ∧
    (s.meterSample v i).she = s.she ∧ (s.meterSample v i).imon = s.imon ∧
    (s.meterSample v i).slu = s.slu ∧ (s.meterSample v i).flu = s.flu ∧
    (s.meterSample v i).store = s.store ∧ (s.meterSample v i).freeIndex = s.freeIndex ∧
    (s.meterSample v i).pending = s.pending := by
  unfold State.meterSample
  repeat' split
  all_goals simp

@[simp] theorem State.meterScan_rest (s : State) :
    s.meterScan.pins = s.pins ∧ s.meterScan.mdu = s.mdu ∧ s.meterScan.mfe = s.mfe ∧
    s.meterScan.pbi = s.pbi ∧ s.meterScan.pvt = s.pvt ∧ s.meterScan.clock = s.clock ∧
    s.meterScan.thu = s.thu ∧ s.meterScan.she = s.she ∧ s.meterScan.imon = s.imon ∧
    s.meterScan.slu = s.slu ∧ s.meterScan.flu = s.flu ∧ s.meterScan.store = s.store ∧
    s.meterScan.freeIndex = s.freeIndex ∧ s.meterScan.pending = s.pending := by
  unfold State.meterScan
  repeat' split
  all_goals simp

@[simp] theorem State.meterSecond_rest (s : State) :
    s.meterSecond.pins = s.pins ∧ s.meterSecond.mdu = s.mdu ∧ s.meterSecond.mfe = s.mfe ∧
    s.meterSecond.pbi = s.pbi ∧ s.meterSecond.pvt = s.pvt ∧ s.meterSecond.clock = s.clock ∧
    s.meterSecond.thu = s.thu ∧ s.meterSecond.she = s.she ∧ s.meterSecond.imon = s.imon ∧
    s.meterSecond.slu = s.slu ∧ s.meterSecond.flu = s.flu ∧ s.meterSecond.store = s.store ∧
    s.meterSecond.freeIndex = s.freeIndex ∧ s.meterSecond.pending = s.pending := by
  unfold State.meterSecond
  repeat' split
  all_goals simp

@[simp] theorem State.meterJump_rest (s : State) :
    s.meterJump.pins = s.pins ∧ s.meterJump.mdu = s.mdu ∧ s.meterJump.mfe = s.mfe ∧
    s.meterJump.pbi = s.pbi ∧ s.meterJump.pvt = s.pvt ∧ s.meterJump.clock = s.clock ∧
    s.meterJump.thu = s.thu ∧ s.meterJump.she = s.she ∧ s.meterJump.imon = s.imon ∧
    s.meterJump.slu = s.slu ∧ s.meterJump.flu = s.flu ∧ s.meterJump.store = s.store ∧
    s.meterJump.freeIndex = s.freeIndex ∧ s.meterJump.pending = s.pending := by
  unfold State.meterJump
  repeat' split
  all_goals simp

/-! ## Sequencer -/

@[simp] theorem State.setSeq_rest (s : State) (q : Seq) :
    (s.setSeq q).pins = s.pins ∧ (s.setSeq q).mdu = s.mdu ∧ (s.setSeq q).pbi = s.pbi ∧
    (s.setSeq q).pvt = s.pvt ∧ (s.setSeq q).clock = s.clock ∧ (s.setSeq q).thu = s.thu ∧
    (s.setSeq q).she = s.she ∧ (s.setSeq q).emt = s.emt ∧ (s.setSeq q).slu = s.slu ∧
    (s.setSeq q).flu = s.flu ∧ (s.setSeq q).store = s.store ∧ (s.setSeq q).freeIndex = s.freeIndex ∧
    (s.setSeq q).pending = s.pending := by
  unfold State.setSeq
  simp

@[simp] theorem State.clearSums_rest (s : State) :
    s.clearSums.pins = s.pins ∧ s.clearSums.mdu = s.mdu ∧ s.clearSums.mfe = s.mfe ∧
    s.clearSums.pbi = s.pbi ∧ s.clearSums.pvt = s.pvt ∧ s.clearSums.clock = s.clock ∧
    s.clearSums.thu = s.thu ∧ s.clearSums.she = s.she ∧ s.clearSums.emt = s.emt ∧
    s.clearSums.slu = s.slu ∧ s.clearSums.flu = s.flu ∧ s.clearSums.store = s.store ∧
    s.clearSums.freeIndex = s.freeIndex ∧ s.clearSums.pending = s.pending := by
  unfold State.clearSums
  simp

@[simp] theorem State.enterWaiting_rest (s : State) :
    s.enterWaiting.pins = s.pins ∧ s.enterWaiting.mdu = s.mdu ∧ s.enterWaiting.pvt = s.pvt ∧
    s.enterWaiting.clock = s.clock ∧ s.enterWaiting.thu = s.thu ∧ s.enterWaiting.she = s.she ∧
    s.enterWaiting.emt = s.emt ∧ s.enterWaiting.slu = s.slu ∧ s.enterWaiting.flu = s.flu ∧
    s.enterWaiting.store = s.store ∧ s.enterWaiting.freeIndex = s.freeIndex ∧
    s.enterWaiting.pending = s.pending := by
  unfold State.enterWaiting
  simp

@[simp] theorem State.enterHoldoff_rest (s : State) :
    s.enterHoldoff.pins = s.pins ∧ s.enterHoldoff.mdu = s.mdu ∧ s.enterHoldoff.pvt = s.pvt ∧
    s.enterHoldoff.clock = s.clock ∧ s.enterHoldoff.thu = s.thu ∧ s.enterHoldoff.she = s.she ∧
    s.enterHoldoff.emt = s.emt ∧ s.enterHoldoff.slu = s.slu ∧ s.enterHoldoff.flu = s.flu ∧
    s.enterHoldoff.store = s.store ∧ s.enterHoldoff.freeIndex = s.freeIndex ∧
    s.enterHoldoff.pending = s.pending := by
  unfold State.enterHoldoff
  simp

@[simp] theorem State.sequencerOff_rest (s : State) :
    s.sequencerOff.pins = s.pins ∧ s.sequencerOff.mdu = s.mdu ∧ s.sequencerOff.pvt = s.pvt ∧
    s.sequencerOff.clock = s.clock ∧ s.sequencerOff.thu = s.thu ∧ s.sequencerOff.she = s.she ∧
    s.sequencerOff.emt = s.emt ∧ s.sequencerOff.slu = s.slu ∧ s.sequencerOff.flu = s.flu ∧
    s.sequencerOff.store = s.store ∧ s.sequencerOff.freeIndex = s.freeIndex ∧
    s.sequencerOff.pending = s.pending := by
  unfold State.sequencerOff
  repeat' split
  all_goals simp

@[simp] theorem State.leaveOff_rest (s : State) :
    s.leaveOff.pins = s.pins ∧ s.leaveOff.mdu = s.mdu ∧ s.leaveOff.pvt = s.pvt ∧
    s.leaveOff.clock = s.clock ∧ s.leaveOff.thu = s.thu ∧ s.leaveOff.she = s.she ∧
    s.leaveOff.emt = s.emt ∧ s.leaveOff.slu = s.slu ∧ s.leaveOff.flu = s.flu ∧
    s.leaveOff.store = s.store ∧ s.leaveOff.freeIndex = s.freeIndex ∧ s.leaveOff.pending = s.pending := by
  unfold State.leaveOff
  repeat' split
  all_goals simp

@[simp] theorem State.startIntent_rest (s : State) :
    s.startIntent.pins = s.pins ∧ s.startIntent.mdu = s.mdu ∧ s.startIntent.pvt = s.pvt ∧
    s.startIntent.clock = s.clock ∧ s.startIntent.thu = s.thu ∧ s.startIntent.she = s.she ∧
    s.startIntent.emt = s.emt ∧ s.startIntent.slu = s.slu ∧ s.startIntent.flu = s.flu ∧
    s.startIntent.store = s.store ∧ s.startIntent.freeIndex = s.freeIndex ∧
    s.startIntent.pending = s.pending := by
  unfold State.startIntent
  simp

@[simp] theorem State.takeTurn_rest (s : State) :
    s.takeTurn.pins = s.pins ∧ s.takeTurn.mdu = s.mdu ∧ s.takeTurn.pvt = s.pvt ∧
    s.takeTurn.clock = s.clock ∧ s.takeTurn.thu = s.thu ∧ s.takeTurn.she = s.she ∧
    s.takeTurn.emt = s.emt ∧ s.takeTurn.slu = s.slu ∧ s.takeTurn.flu = s.flu ∧
    s.takeTurn.store = s.store ∧ s.takeTurn.freeIndex = s.freeIndex ∧ s.takeTurn.pending = s.pending := by
  unfold State.takeTurn
  repeat' split
  all_goals simp

@[simp] theorem State.loadOwnResult_rest (s : State) (k : ResultKind) (v : Nat) :
    (s.loadOwnResult k v).pins = s.pins ∧ (s.loadOwnResult k v).mdu = s.mdu ∧
    (s.loadOwnResult k v).mfe = s.mfe ∧ (s.loadOwnResult k v).pvt = s.pvt ∧
    (s.loadOwnResult k v).clock = s.clock ∧ (s.loadOwnResult k v).thu = s.thu ∧
    (s.loadOwnResult k v).she = s.she ∧ (s.loadOwnResult k v).imon = s.imon ∧
    (s.loadOwnResult k v).emt = s.emt ∧ (s.loadOwnResult k v).slu = s.slu ∧
    (s.loadOwnResult k v).flu = s.flu ∧ (s.loadOwnResult k v).store = s.store ∧
    (s.loadOwnResult k v).freeIndex = s.freeIndex ∧ (s.loadOwnResult k v).pending = s.pending := by
  unfold State.loadOwnResult
  simp

@[simp] theorem State.abortMeasurement_rest (s : State) :
    s.abortMeasurement.pins = s.pins ∧ s.abortMeasurement.mdu = s.mdu ∧ s.abortMeasurement.pvt = s.pvt ∧
    s.abortMeasurement.clock = s.clock ∧ s.abortMeasurement.thu = s.thu ∧ s.abortMeasurement.she = s.she ∧
    s.abortMeasurement.emt = s.emt ∧ s.abortMeasurement.slu = s.slu ∧ s.abortMeasurement.flu = s.flu ∧
    s.abortMeasurement.store = s.store ∧ s.abortMeasurement.freeIndex = s.freeIndex ∧
    s.abortMeasurement.pending = s.pending := by
  unfold State.abortMeasurement
  simp

@[simp] theorem State.standBack_rest (s : State) :
    s.standBack.pins = s.pins ∧ s.standBack.mdu = s.mdu ∧ s.standBack.pvt = s.pvt ∧
    s.standBack.clock = s.clock ∧ s.standBack.thu = s.thu ∧ s.standBack.she = s.she ∧
    s.standBack.emt = s.emt ∧ s.standBack.slu = s.slu ∧ s.standBack.flu = s.flu ∧
    s.standBack.store = s.store ∧ s.standBack.freeIndex = s.freeIndex ∧
    s.standBack.pending = s.pending := by
  unfold State.standBack
  repeat' split
  all_goals simp

@[simp] theorem State.intentSent_rest (s : State) :
    s.intentSent.pins = s.pins ∧ s.intentSent.mdu = s.mdu ∧ s.intentSent.pvt = s.pvt ∧
    s.intentSent.clock = s.clock ∧ s.intentSent.thu = s.thu ∧ s.intentSent.she = s.she ∧
    s.intentSent.emt = s.emt ∧ s.intentSent.slu = s.slu ∧ s.intentSent.flu = s.flu ∧
    s.intentSent.store = s.store ∧ s.intentSent.freeIndex = s.freeIndex ∧
    s.intentSent.pending = s.pending := by
  unfold State.intentSent
  repeat' split
  all_goals simp

@[simp] theorem State.intentDropped_rest (s : State) :
    s.intentDropped.pins = s.pins ∧ s.intentDropped.mdu = s.mdu ∧ s.intentDropped.pvt = s.pvt ∧
    s.intentDropped.clock = s.clock ∧ s.intentDropped.thu = s.thu ∧ s.intentDropped.she = s.she ∧
    s.intentDropped.emt = s.emt ∧ s.intentDropped.slu = s.slu ∧ s.intentDropped.flu = s.flu ∧
    s.intentDropped.store = s.store ∧ s.intentDropped.freeIndex = s.freeIndex ∧
    s.intentDropped.pending = s.pending := by
  unfold State.intentDropped
  repeat' split
  all_goals simp

@[simp] theorem State.startInjecting_rest (s : State) :
    s.startInjecting.pins = s.pins ∧ s.startInjecting.mdu = s.mdu ∧ s.startInjecting.pbi = s.pbi ∧
    s.startInjecting.pvt = s.pvt ∧ s.startInjecting.clock = s.clock ∧ s.startInjecting.thu = s.thu ∧
    s.startInjecting.she = s.she ∧ s.startInjecting.emt = s.emt ∧ s.startInjecting.slu = s.slu ∧
    s.startInjecting.flu = s.flu ∧ s.startInjecting.store = s.store ∧
    s.startInjecting.freeIndex = s.freeIndex ∧ s.startInjecting.pending = s.pending := by
  unfold State.startInjecting
  simp

@[simp] theorem State.monitorPending_rest (s : State) :
    s.monitorPending.pins = s.pins ∧ s.monitorPending.mdu = s.mdu ∧ s.monitorPending.pvt = s.pvt ∧
    s.monitorPending.clock = s.clock ∧ s.monitorPending.thu = s.thu ∧ s.monitorPending.she = s.she ∧
    s.monitorPending.emt = s.emt ∧ s.monitorPending.slu = s.slu ∧ s.monitorPending.flu = s.flu ∧
    s.monitorPending.store = s.store ∧ s.monitorPending.freeIndex = s.freeIndex ∧
    s.monitorPending.pending = s.pending := by
  unfold State.monitorPending
  repeat' split
  all_goals simp

@[simp] theorem State.monitorIdle_rest (s : State) :
    s.monitorIdle.pins = s.pins ∧ s.monitorIdle.mdu = s.mdu ∧ s.monitorIdle.mfe = s.mfe ∧
    s.monitorIdle.pbi = s.pbi ∧ s.monitorIdle.pvt = s.pvt ∧ s.monitorIdle.clock = s.clock ∧
    s.monitorIdle.emt = s.emt ∧ s.monitorIdle.slu = s.slu ∧ s.monitorIdle.flu = s.flu ∧
    s.monitorIdle.store = s.store ∧ s.monitorIdle.freeIndex = s.freeIndex ∧
    s.monitorIdle.pending = s.pending := by
  unfold State.monitorIdle
  repeat' split
  all_goals simp

/-! ## Session unit and latches -/

@[simp] theorem State.openSession_rest (s : State) (id : Nat) :
    (s.openSession id).pins = s.pins ∧ (s.openSession id).mdu = s.mdu ∧ (s.openSession id).mfe = s.mfe ∧
    (s.openSession id).pbi = s.pbi ∧ (s.openSession id).pvt = s.pvt ∧ (s.openSession id).clock = s.clock ∧
    (s.openSession id).imon = s.imon ∧ (s.openSession id).flu = s.flu ∧
    (s.openSession id).store = s.store ∧ (s.openSession id).freeIndex = s.freeIndex ∧
    (s.openSession id).pending = s.pending := by
  unfold State.openSession
  simp

@[simp] theorem State.openingTest_rest (s : State) :
    s.openingTest.pins = s.pins ∧ s.openingTest.mdu = s.mdu ∧ s.openingTest.mfe = s.mfe ∧
    s.openingTest.pbi = s.pbi ∧ s.openingTest.pvt = s.pvt ∧ s.openingTest.clock = s.clock ∧
    s.openingTest.imon = s.imon ∧ s.openingTest.flu = s.flu ∧ s.openingTest.store = s.store ∧
    s.openingTest.freeIndex = s.freeIndex ∧ s.openingTest.pending = s.pending := by
  unfold State.openingTest
  repeat' split
  all_goals simp

@[simp] theorem State.enterPending_rest (s : State) (id : Nat) :
    (s.enterPending id).pins = s.pins ∧ (s.enterPending id).mdu = s.mdu ∧
    (s.enterPending id).pvt = s.pvt ∧ (s.enterPending id).clock = s.clock ∧
    (s.enterPending id).flu = s.flu ∧ (s.enterPending id).store = s.store ∧
    (s.enterPending id).freeIndex = s.freeIndex ∧ (s.enterPending id).pending = s.pending := by
  unfold State.enterPending
  simp

@[simp] theorem State.offerSession_rest (s : State) (p : Bool) (id : Nat) :
    (s.offerSession p id).pins = s.pins ∧ (s.offerSession p id).mdu = s.mdu ∧
    (s.offerSession p id).pvt = s.pvt ∧ (s.offerSession p id).clock = s.clock ∧
    (s.offerSession p id).flu = s.flu ∧ (s.offerSession p id).store = s.store ∧
    (s.offerSession p id).freeIndex = s.freeIndex ∧ (s.offerSession p id).pending = s.pending := by
  unfold State.offerSession
  repeat' split
  all_goals simp

@[simp] theorem State.returnToIdle_rest (s : State) :
    s.returnToIdle.pins = s.pins ∧ s.returnToIdle.mdu = s.mdu ∧ s.returnToIdle.mfe = s.mfe ∧
    s.returnToIdle.pbi = s.pbi ∧ s.returnToIdle.pvt = s.pvt ∧ s.returnToIdle.clock = s.clock ∧
    s.returnToIdle.emt = s.emt ∧ s.returnToIdle.flu = s.flu ∧ s.returnToIdle.store = s.store ∧
    s.returnToIdle.freeIndex = s.freeIndex ∧ s.returnToIdle.pending = s.pending := by
  unfold State.returnToIdle
  repeat' split
  all_goals simp

@[simp] theorem State.retest_rest (s : State) :
    s.retest.pins = s.pins ∧ s.retest.mdu = s.mdu ∧ s.retest.pvt = s.pvt ∧ s.retest.clock = s.clock ∧
    s.retest.flu = s.flu ∧ s.retest.store = s.store ∧ s.retest.freeIndex = s.freeIndex ∧
    s.retest.pending = s.pending := by
  unfold State.retest
  repeat' split
  all_goals simp

@[simp] theorem State.startWrite_rest (s : State) (r : SessionRecord) (f : Option (Fin 16)) :
    (s.startWrite r f).pins = s.pins ∧ (s.startWrite r f).mdu = s.mdu ∧ (s.startWrite r f).mfe = s.mfe ∧
    (s.startWrite r f).pbi = s.pbi ∧ (s.startWrite r f).pvt = s.pvt ∧ (s.startWrite r f).clock = s.clock ∧
    (s.startWrite r f).thu = s.thu ∧ (s.startWrite r f).she = s.she ∧ (s.startWrite r f).imon = s.imon ∧
    (s.startWrite r f).emt = s.emt ∧ (s.startWrite r f).flu = s.flu ∧
    (s.startWrite r f).freeIndex = s.freeIndex ∧ (s.startWrite r f).pending = s.pending := by
  unfold State.startWrite
  simp

@[simp] theorem State.raiseFlag_rest (s : State) (f : Flag) :
    (s.raiseFlag f).pins = s.pins ∧ (s.raiseFlag f).mdu = s.mdu ∧ (s.raiseFlag f).mfe = s.mfe ∧
    (s.raiseFlag f).pbi = s.pbi ∧ (s.raiseFlag f).pvt = s.pvt ∧ (s.raiseFlag f).clock = s.clock ∧
    (s.raiseFlag f).imon = s.imon ∧ (s.raiseFlag f).emt = s.emt ∧ (s.raiseFlag f).store = s.store ∧
    (s.raiseFlag f).freeIndex = s.freeIndex ∧ (s.raiseFlag f).pending = s.pending := by
  unfold State.raiseFlag
  simp

@[simp] theorem State.idleAfterEnd_rest (s : State) :
    s.idleAfterEnd.pins = s.pins ∧ s.idleAfterEnd.mdu = s.mdu ∧ s.idleAfterEnd.pvt = s.pvt ∧
    s.idleAfterEnd.clock = s.clock ∧ s.idleAfterEnd.flu = s.flu ∧ s.idleAfterEnd.store = s.store ∧
    s.idleAfterEnd.freeIndex = s.freeIndex ∧ s.idleAfterEnd.pending = s.pending := by
  unfold State.idleAfterEnd
  simp

@[simp] theorem State.latchLog_rest (s : State) :
    s.latchLog.pins = s.pins ∧ s.latchLog.mdu = s.mdu ∧ s.latchLog.mfe = s.mfe ∧ s.latchLog.pbi = s.pbi ∧
    s.latchLog.pvt = s.pvt ∧ s.latchLog.clock = s.clock ∧ s.latchLog.imon = s.imon ∧
    s.latchLog.emt = s.emt ∧ s.latchLog.store = s.store ∧ s.latchLog.freeIndex = s.freeIndex ∧
    s.latchLog.pending = s.pending := by
  unfold State.latchLog
  repeat' split
  all_goals simp

@[simp] theorem State.moveToBuffer_rest (s : State) :
    s.moveToBuffer.pins = s.pins ∧ s.moveToBuffer.mdu = s.mdu ∧ s.moveToBuffer.pvt = s.pvt ∧
    s.moveToBuffer.clock = s.clock ∧ s.moveToBuffer.freeIndex = s.freeIndex ∧
    s.moveToBuffer.pending = s.pending := by
  unfold State.moveToBuffer
  repeat' split
  all_goals simp

@[simp] theorem State.endSession_rest (s : State) (e : EndReason) :
    (s.endSession e).pins = s.pins ∧ (s.endSession e).mdu = s.mdu ∧ (s.endSession e).pvt = s.pvt ∧
    (s.endSession e).clock = s.clock ∧ (s.endSession e).freeIndex = s.freeIndex ∧
    (s.endSession e).pending = s.pending := by
  unfold State.endSession
  repeat' split
  all_goals simp

@[simp] theorem State.latchEnds_rest (s : State) (f : Flag) :
    (s.latchEnds f).pins = s.pins ∧ (s.latchEnds f).mdu = s.mdu ∧ (s.latchEnds f).pvt = s.pvt ∧
    (s.latchEnds f).clock = s.clock ∧ (s.latchEnds f).freeIndex = s.freeIndex ∧
    (s.latchEnds f).pending = s.pending := by
  unfold State.latchEnds
  repeat' split
  all_goals simp

@[simp] theorem State.sessionLatch_rest (s : State) (f : Flag) :
    (s.sessionLatch f).pins = s.pins ∧ (s.sessionLatch f).mdu = s.mdu ∧ (s.sessionLatch f).pvt = s.pvt ∧
    (s.sessionLatch f).clock = s.clock ∧ (s.sessionLatch f).freeIndex = s.freeIndex ∧
    (s.sessionLatch f).pending = s.pending := by
  unfold State.sessionLatch
  repeat' split
  all_goals simp

@[simp] theorem State.monitorLatch_rest (s : State) (f : Flag) :
    (s.monitorLatch f).pins = s.pins ∧ (s.monitorLatch f).mdu = s.mdu ∧ (s.monitorLatch f).pvt = s.pvt ∧
    (s.monitorLatch f).clock = s.clock ∧ (s.monitorLatch f).thu = s.thu ∧ (s.monitorLatch f).she = s.she ∧
    (s.monitorLatch f).emt = s.emt ∧ (s.monitorLatch f).slu = s.slu ∧ (s.monitorLatch f).flu = s.flu ∧
    (s.monitorLatch f).store = s.store ∧ (s.monitorLatch f).freeIndex = s.freeIndex ∧
    (s.monitorLatch f).pending = s.pending := by
  unfold State.monitorLatch
  repeat' split
  all_goals simp

@[simp] theorem State.latch_rest (s : State) (f : Flag) :
    (s.latch f).pins = s.pins ∧ (s.latch f).mdu = s.mdu ∧ (s.latch f).pvt = s.pvt ∧
    (s.latch f).clock = s.clock ∧ (s.latch f).freeIndex = s.freeIndex ∧
    (s.latch f).pending = s.pending := by
  unfold State.latch
  repeat' split
  all_goals simp

/-! ## Insulation monitor -/

@[simp] theorem State.enterIsoFault_rest (s : State) :
    s.enterIsoFault.pins = s.pins ∧ s.enterIsoFault.mdu = s.mdu ∧ s.enterIsoFault.pvt = s.pvt ∧
    s.enterIsoFault.clock = s.clock ∧ s.enterIsoFault.freeIndex = s.freeIndex ∧
    s.enterIsoFault.pending = s.pending := by
  unfold State.enterIsoFault
  simp

@[simp] theorem State.enterIsoGood_rest (s : State) :
    s.enterIsoGood.pins = s.pins ∧ s.enterIsoGood.mdu = s.mdu ∧ s.enterIsoGood.mfe = s.mfe ∧
    s.enterIsoGood.pbi = s.pbi ∧ s.enterIsoGood.pvt = s.pvt ∧ s.enterIsoGood.clock = s.clock ∧
    s.enterIsoGood.emt = s.emt ∧ s.enterIsoGood.slu = s.slu ∧ s.enterIsoGood.flu = s.flu ∧
    s.enterIsoGood.store = s.store ∧ s.enterIsoGood.freeIndex = s.freeIndex ∧
    s.enterIsoGood.pending = s.pending := by
  unfold State.enterIsoGood
  simp

@[simp] theorem State.enterIsoWarning_rest (s : State) :
    s.enterIsoWarning.pins = s.pins ∧ s.enterIsoWarning.mdu = s.mdu ∧ s.enterIsoWarning.pvt = s.pvt ∧
    s.enterIsoWarning.clock = s.clock ∧ s.enterIsoWarning.freeIndex = s.freeIndex ∧
    s.enterIsoWarning.pending = s.pending := by
  unfold State.enterIsoWarning
  simp

@[simp] theorem State.insulationStep_rest (s : State) :
    s.insulationStep.pins = s.pins ∧ s.insulationStep.mdu = s.mdu ∧ s.insulationStep.pvt = s.pvt ∧
    s.insulationStep.clock = s.clock ∧ s.insulationStep.freeIndex = s.freeIndex ∧
    s.insulationStep.pending = s.pending := by
  unfold State.insulationStep
  repeat' split
  all_goals simp

@[simp] theorem State.giveClearance_rest (s : State) (r : Nat) :
    (s.giveClearance r).pins = s.pins ∧ (s.giveClearance r).mdu = s.mdu ∧
    (s.giveClearance r).mfe = s.mfe ∧ (s.giveClearance r).pbi = s.pbi ∧ (s.giveClearance r).pvt = s.pvt ∧
    (s.giveClearance r).clock = s.clock ∧ (s.giveClearance r).flu = s.flu ∧
    (s.giveClearance r).store = s.store ∧ (s.giveClearance r).freeIndex = s.freeIndex ∧
    (s.giveClearance r).pending = s.pending := by
  unfold State.giveClearance
  repeat' split
  all_goals simp

@[simp] theorem State.classify_rest (s : State) (r : Nat) :
    (s.classify r).pins = s.pins ∧ (s.classify r).mdu = s.mdu ∧ (s.classify r).pvt = s.pvt ∧
    (s.classify r).clock = s.clock ∧ (s.classify r).freeIndex = s.freeIndex ∧
    (s.classify r).pending = s.pending := by
  unfold State.classify
  repeat' split
  all_goals simp

@[simp] theorem State.restartInterval_rest (s : State) :
    s.restartInterval.pins = s.pins ∧ s.restartInterval.mdu = s.mdu ∧ s.restartInterval.pvt = s.pvt ∧
    s.restartInterval.clock = s.clock ∧ s.restartInterval.thu = s.thu ∧ s.restartInterval.she = s.she ∧
    s.restartInterval.emt = s.emt ∧ s.restartInterval.slu = s.slu ∧ s.restartInterval.flu = s.flu ∧
    s.restartInterval.store = s.store ∧ s.restartInterval.freeIndex = s.freeIndex ∧
    s.restartInterval.pending = s.pending := by
  unfold State.restartInterval
  repeat' split
  all_goals simp

@[simp] theorem State.injectorFails_rest (s : State) :
    s.injectorFails.pins = s.pins ∧ s.injectorFails.mdu = s.mdu ∧ s.injectorFails.pvt = s.pvt ∧
    s.injectorFails.clock = s.clock ∧ s.injectorFails.freeIndex = s.freeIndex ∧
    s.injectorFails.pending = s.pending := by
  unfold State.injectorFails
  simp

@[simp] theorem State.finishNoResponse_rest (s : State) :
    s.finishNoResponse.pins = s.pins ∧ s.finishNoResponse.mdu = s.mdu ∧ s.finishNoResponse.pvt = s.pvt ∧
    s.finishNoResponse.clock = s.clock ∧ s.finishNoResponse.freeIndex = s.freeIndex ∧
    s.finishNoResponse.pending = s.pending := by
  unfold State.finishNoResponse
  repeat' split
  all_goals simp

@[simp] theorem State.finishResult_rest (s : State) (k : ResultKind) (v : Nat) :
    (s.finishResult k v).pins = s.pins ∧ (s.finishResult k v).mdu = s.mdu ∧
    (s.finishResult k v).pvt = s.pvt ∧ (s.finishResult k v).clock = s.clock ∧
    (s.finishResult k v).freeIndex = s.freeIndex ∧ (s.finishResult k v).pending = s.pending := by
  unfold State.finishResult
  simp

@[simp] theorem State.completeMeasurement_rest (s : State) :
    s.completeMeasurement.pins = s.pins ∧ s.completeMeasurement.mdu = s.mdu ∧
    s.completeMeasurement.pvt = s.pvt ∧ s.completeMeasurement.clock = s.clock ∧
    s.completeMeasurement.freeIndex = s.freeIndex ∧ s.completeMeasurement.pending = s.pending := by
  unfold State.completeMeasurement
  repeat' split
  all_goals simp

@[simp] theorem State.advanceSample_rest (s : State) (p : Phase) (n : Nat) :
    (s.advanceSample p n).pins = s.pins ∧ (s.advanceSample p n).mdu = s.mdu ∧
    (s.advanceSample p n).pvt = s.pvt ∧ (s.advanceSample p n).clock = s.clock ∧
    (s.advanceSample p n).freeIndex = s.freeIndex ∧ (s.advanceSample p n).pending = s.pending := by
  unfold State.advanceSample
  repeat' split
  all_goals simp

@[simp] theorem State.takeSample_rest (s : State) (p : Phase) (n : Nat) (c : Int) :
    (s.takeSample p n c).pins = s.pins ∧ (s.takeSample p n c).mdu = s.mdu ∧
    (s.takeSample p n c).pvt = s.pvt ∧ (s.takeSample p n c).clock = s.clock ∧
    (s.takeSample p n c).freeIndex = s.freeIndex ∧ (s.takeSample p n c).pending = s.pending := by
  unfold State.takeSample
  repeat' split
  all_goals simp

/-! ## Thermal unit -/

@[simp] theorem State.cellStep_rest (s : State) :
    s.cellStep.pins = s.pins ∧ s.cellStep.mdu = s.mdu ∧ s.cellStep.mfe = s.mfe ∧ s.cellStep.pbi = s.pbi ∧
    s.cellStep.pvt = s.pvt ∧ s.cellStep.clock = s.clock ∧ s.cellStep.she = s.she ∧
    s.cellStep.imon = s.imon ∧ s.cellStep.emt = s.emt ∧ s.cellStep.slu = s.slu ∧ s.cellStep.flu = s.flu ∧
    s.cellStep.store = s.store ∧ s.cellStep.freeIndex = s.freeIndex ∧ s.cellStep.pending = s.pending := by
  unfold State.cellStep
  simp

@[simp] theorem State.thermalFault_rest (s : State) :
    s.thermalFault.pins = s.pins ∧ s.thermalFault.mdu = s.mdu ∧ s.thermalFault.pvt = s.pvt ∧
    s.thermalFault.clock = s.clock ∧ s.thermalFault.freeIndex = s.freeIndex ∧
    s.thermalFault.pending = s.pending := by
  unfold State.thermalFault
  repeat' split
  all_goals simp

@[simp] theorem State.sensorStep_rest (s : State) :
    s.sensorStep.pins = s.pins ∧ s.sensorStep.mdu = s.mdu ∧ s.sensorStep.pvt = s.pvt ∧
    s.sensorStep.clock = s.clock ∧ s.sensorStep.freeIndex = s.freeIndex ∧
    s.sensorStep.pending = s.pending := by
  unfold State.sensorStep
  repeat' split
  all_goals simp

@[simp] theorem State.setHeater_rest (s : State) (h : Heater) :
    (s.setHeater h).pins = s.pins ∧ (s.setHeater h).mdu = s.mdu ∧ (s.setHeater h).mfe = s.mfe ∧
    (s.setHeater h).pbi = s.pbi ∧ (s.setHeater h).pvt = s.pvt ∧ (s.setHeater h).clock = s.clock ∧
    (s.setHeater h).she = s.she ∧ (s.setHeater h).imon = s.imon ∧ (s.setHeater h).emt = s.emt ∧
    (s.setHeater h).slu = s.slu ∧ (s.setHeater h).flu = s.flu ∧ (s.setHeater h).store = s.store ∧
    (s.setHeater h).freeIndex = s.freeIndex ∧ (s.setHeater h).pending = s.pending := by
  unfold State.setHeater
  simp

@[simp] theorem State.heaterStep_rest (s : State) :
    s.heaterStep.pins = s.pins ∧ s.heaterStep.mdu = s.mdu ∧ s.heaterStep.pvt = s.pvt ∧
    s.heaterStep.clock = s.clock ∧ s.heaterStep.freeIndex = s.freeIndex ∧
    s.heaterStep.pending = s.pending := by
  unfold State.heaterStep
  repeat' split
  all_goals simp

@[simp] theorem State.capStep_rest (s : State) :
    s.capStep.pins = s.pins ∧ s.capStep.mdu = s.mdu ∧ s.capStep.mfe = s.mfe ∧ s.capStep.pbi = s.pbi ∧
    s.capStep.pvt = s.pvt ∧ s.capStep.clock = s.clock ∧ s.capStep.she = s.she ∧ s.capStep.imon = s.imon ∧
    s.capStep.emt = s.emt ∧ s.capStep.slu = s.slu ∧ s.capStep.flu = s.flu ∧ s.capStep.store = s.store ∧
    s.capStep.freeIndex = s.freeIndex ∧ s.capStep.pending = s.pending := by
  unfold State.capStep
  simp

@[simp] theorem State.powerStep_rest (s : State) :
    s.powerStep.pins = s.pins ∧ s.powerStep.mdu = s.mdu ∧ s.powerStep.mfe = s.mfe ∧
    s.powerStep.pbi = s.pbi ∧ s.powerStep.pvt = s.pvt ∧ s.powerStep.clock = s.clock ∧
    s.powerStep.she = s.she ∧ s.powerStep.imon = s.imon ∧ s.powerStep.emt = s.emt ∧
    s.powerStep.slu = s.slu ∧ s.powerStep.flu = s.flu ∧ s.powerStep.store = s.store ∧
    s.powerStep.freeIndex = s.freeIndex ∧ s.powerStep.pending = s.pending := by
  unfold State.powerStep
  simp

@[simp] theorem State.thermalHold_rest (s : State) :
    s.thermalHold.pins = s.pins ∧ s.thermalHold.mdu = s.mdu ∧ s.thermalHold.mfe = s.mfe ∧
    s.thermalHold.pbi = s.pbi ∧ s.thermalHold.pvt = s.pvt ∧ s.thermalHold.clock = s.clock ∧
    s.thermalHold.she = s.she ∧ s.thermalHold.imon = s.imon ∧ s.thermalHold.emt = s.emt ∧
    s.thermalHold.slu = s.slu ∧ s.thermalHold.flu = s.flu ∧ s.thermalHold.store = s.store ∧
    s.thermalHold.freeIndex = s.freeIndex ∧ s.thermalHold.pending = s.pending := by
  unfold State.thermalHold
  simp

@[simp] theorem State.thermalScan_rest (s : State) :
    s.thermalScan.pins = s.pins ∧ s.thermalScan.mdu = s.mdu ∧ s.thermalScan.pvt = s.pvt ∧
    s.thermalScan.clock = s.clock ∧ s.thermalScan.freeIndex = s.freeIndex ∧
    s.thermalScan.pending = s.pending := by
  unfold State.thermalScan
  repeat' split
  all_goals simp

/-! ## Line -/

@[simp] theorem State.overdrawAbsent_rest (s : State) :
    s.overdrawAbsent.pins = s.pins ∧ s.overdrawAbsent.mdu = s.mdu ∧ s.overdrawAbsent.mfe = s.mfe ∧
    s.overdrawAbsent.pbi = s.pbi ∧ s.overdrawAbsent.pvt = s.pvt ∧ s.overdrawAbsent.clock = s.clock ∧
    s.overdrawAbsent.thu = s.thu ∧ s.overdrawAbsent.imon = s.imon ∧ s.overdrawAbsent.emt = s.emt ∧
    s.overdrawAbsent.slu = s.slu ∧ s.overdrawAbsent.flu = s.flu ∧ s.overdrawAbsent.store = s.store ∧
    s.overdrawAbsent.freeIndex = s.freeIndex ∧ s.overdrawAbsent.pending = s.pending := by
  unfold State.overdrawAbsent
  repeat' split
  all_goals simp

@[simp] theorem State.shareLine_rest (s : State) (b : LineState) :
    (s.shareLine b).pins = s.pins ∧ (s.shareLine b).mdu = s.mdu ∧ (s.shareLine b).mfe = s.mfe ∧
    (s.shareLine b).pbi = s.pbi ∧ (s.shareLine b).pvt = s.pvt ∧ (s.shareLine b).clock = s.clock ∧
    (s.shareLine b).imon = s.imon ∧ (s.shareLine b).emt = s.emt ∧ (s.shareLine b).slu = s.slu ∧
    (s.shareLine b).flu = s.flu ∧ (s.shareLine b).store = s.store ∧
    (s.shareLine b).freeIndex = s.freeIndex ∧ (s.shareLine b).pending = s.pending := by
  unfold State.shareLine
  repeat' split
  all_goals simp

@[simp] theorem State.lineReport_rest (s : State) (b : LineState) :
    (s.lineReport b).pins = s.pins ∧ (s.lineReport b).mdu = s.mdu ∧ (s.lineReport b).mfe = s.mfe ∧
    (s.lineReport b).pbi = s.pbi ∧ (s.lineReport b).pvt = s.pvt ∧ (s.lineReport b).clock = s.clock ∧
    (s.lineReport b).imon = s.imon ∧ (s.lineReport b).flu = s.flu ∧ (s.lineReport b).store = s.store ∧
    (s.lineReport b).freeIndex = s.freeIndex ∧ (s.lineReport b).pending = s.pending := by
  unfold State.lineReport
  repeat' split
  all_goals simp

@[simp] theorem State.lineLatch_rest (s : State) (b : LineState) :
    (s.lineLatch b).pins = s.pins ∧ (s.lineLatch b).mdu = s.mdu ∧ (s.lineLatch b).pvt = s.pvt ∧
    (s.lineLatch b).clock = s.clock ∧ (s.lineLatch b).freeIndex = s.freeIndex ∧
    (s.lineLatch b).pending = s.pending := by
  unfold State.lineLatch
  repeat' split
  all_goals simp

@[simp] theorem State.firstCrossing_rest (s : State) (t : Nat) (v i : Int) :
    (s.firstCrossing t v i).pins = s.pins ∧ (s.firstCrossing t v i).mdu = s.mdu ∧
    (s.firstCrossing t v i).pbi = s.pbi ∧ (s.firstCrossing t v i).pvt = s.pvt ∧
    (s.firstCrossing t v i).clock = s.clock ∧ (s.firstCrossing t v i).imon = s.imon ∧
    (s.firstCrossing t v i).flu = s.flu ∧ (s.firstCrossing t v i).store = s.store ∧
    (s.firstCrossing t v i).freeIndex = s.freeIndex ∧ (s.firstCrossing t v i).pending = s.pending := by
  unfold State.firstCrossing
  simp

@[simp] theorem State.closeCycle_rest (s : State) (o t : Nat) (v i : Int) :
    (s.closeCycle o t v i).pins = s.pins ∧ (s.closeCycle o t v i).mdu = s.mdu ∧
    (s.closeCycle o t v i).pvt = s.pvt ∧ (s.closeCycle o t v i).clock = s.clock ∧
    (s.closeCycle o t v i).freeIndex = s.freeIndex ∧ (s.closeCycle o t v i).pending = s.pending := by
  unfold State.closeCycle
  simp

@[simp] theorem State.loseLine_rest (s : State) :
    s.loseLine.pins = s.pins ∧ s.loseLine.mdu = s.mdu ∧ s.loseLine.pbi = s.pbi ∧ s.loseLine.pvt = s.pvt ∧
    s.loseLine.clock = s.clock ∧ s.loseLine.imon = s.imon ∧ s.loseLine.flu = s.flu ∧
    s.loseLine.store = s.store ∧ s.loseLine.freeIndex = s.freeIndex ∧ s.loseLine.pending = s.pending := by
  unfold State.loseLine
  simp

@[simp] theorem State.plainSample_rest (s : State) (v i : Int) :
    (s.plainSample v i).pins = s.pins ∧ (s.plainSample v i).mdu = s.mdu ∧
    (s.plainSample v i).pbi = s.pbi ∧ (s.plainSample v i).pvt = s.pvt ∧
    (s.plainSample v i).clock = s.clock ∧ (s.plainSample v i).imon = s.imon ∧
    (s.plainSample v i).flu = s.flu ∧ (s.plainSample v i).store = s.store ∧
    (s.plainSample v i).freeIndex = s.freeIndex ∧ (s.plainSample v i).pending = s.pending := by
  unfold State.plainSample
  repeat' split
  all_goals simp

@[simp] theorem State.lineSample_rest (s : State) (v i : Int) :
    (s.lineSample v i).pins = s.pins ∧ (s.lineSample v i).mdu = s.mdu ∧ (s.lineSample v i).pvt = s.pvt ∧
    (s.lineSample v i).clock = s.clock ∧ (s.lineSample v i).freeIndex = s.freeIndex ∧
    (s.lineSample v i).pending = s.pending := by
  unfold State.lineSample
  repeat' split
  all_goals simp

@[simp] theorem State.keepSample_rest (s : State) (v : Int) :
    (s.keepSample v).pins = s.pins ∧ (s.keepSample v).mdu = s.mdu ∧ (s.keepSample v).pbi = s.pbi ∧
    (s.keepSample v).pvt = s.pvt ∧ (s.keepSample v).clock = s.clock ∧ (s.keepSample v).thu = s.thu ∧
    (s.keepSample v).she = s.she ∧ (s.keepSample v).imon = s.imon ∧ (s.keepSample v).emt = s.emt ∧
    (s.keepSample v).slu = s.slu ∧ (s.keepSample v).flu = s.flu ∧ (s.keepSample v).store = s.store ∧
    (s.keepSample v).freeIndex = s.freeIndex ∧ (s.keepSample v).pending = s.pending := by
  unfold State.keepSample
  simp

/-! ## Peer view, contract, clock -/

@[simp] theorem State.setView_rest (s : State) (v : List Entry) :
    (s.setView v).pins = s.pins ∧ (s.setView v).mdu = s.mdu ∧ (s.setView v).mfe = s.mfe ∧
    (s.setView v).pbi = s.pbi ∧ (s.setView v).clock = s.clock ∧ (s.setView v).thu = s.thu ∧
    (s.setView v).she = s.she ∧ (s.setView v).imon = s.imon ∧ (s.setView v).emt = s.emt ∧
    (s.setView v).slu = s.slu ∧ (s.setView v).flu = s.flu ∧ (s.setView v).store = s.store ∧
    (s.setView v).freeIndex = s.freeIndex ∧ (s.setView v).pending = s.pending := by
  unfold State.setView
  simp

@[simp] theorem State.settleEntry_rest (s : State) (x : Received) :
    (s.settleEntry x).pins = s.pins ∧ (s.settleEntry x).mdu = s.mdu ∧ (s.settleEntry x).mfe = s.mfe ∧
    (s.settleEntry x).pbi = s.pbi ∧ (s.settleEntry x).clock = s.clock ∧ (s.settleEntry x).thu = s.thu ∧
    (s.settleEntry x).she = s.she ∧ (s.settleEntry x).imon = s.imon ∧ (s.settleEntry x).emt = s.emt ∧
    (s.settleEntry x).slu = s.slu ∧ (s.settleEntry x).flu = s.flu ∧ (s.settleEntry x).store = s.store ∧
    (s.settleEntry x).freeIndex = s.freeIndex ∧ (s.settleEntry x).pending = s.pending := by
  unfold State.settleEntry
  simp

@[simp] theorem State.ageView_rest (s : State) :
    s.ageView.pins = s.pins ∧ s.ageView.mdu = s.mdu ∧ s.ageView.mfe = s.mfe ∧ s.ageView.pbi = s.pbi ∧
    s.ageView.clock = s.clock ∧ s.ageView.thu = s.thu ∧ s.ageView.she = s.she ∧ s.ageView.imon = s.imon ∧
    s.ageView.emt = s.emt ∧ s.ageView.slu = s.slu ∧ s.ageView.flu = s.flu ∧ s.ageView.store = s.store ∧
    s.ageView.freeIndex = s.freeIndex ∧ s.ageView.pending = s.pending := by
  unfold State.ageView
  simp

@[simp] theorem State.heard_rest (s : State) (k : Kind) :
    (s.heard k).pins = s.pins ∧ (s.heard k).mfe = s.mfe ∧ (s.heard k).pbi = s.pbi ∧
    (s.heard k).pvt = s.pvt ∧ (s.heard k).clock = s.clock ∧ (s.heard k).thu = s.thu ∧
    (s.heard k).she = s.she ∧ (s.heard k).imon = s.imon ∧ (s.heard k).emt = s.emt ∧
    (s.heard k).slu = s.slu ∧ (s.heard k).flu = s.flu ∧ (s.heard k).store = s.store ∧
    (s.heard k).freeIndex = s.freeIndex ∧ (s.heard k).pending = s.pending := by
  unfold State.heard
  repeat' split
  all_goals simp

@[simp] theorem State.sessionContract_rest (s : State) (p : Bool) (id : Nat) :
    (s.sessionContract p id).pins = s.pins ∧ (s.sessionContract p id).mdu = s.mdu ∧
    (s.sessionContract p id).pvt = s.pvt ∧ (s.sessionContract p id).clock = s.clock ∧
    (s.sessionContract p id).freeIndex = s.freeIndex ∧ (s.sessionContract p id).pending = s.pending := by
  unfold State.sessionContract
  repeat' split
  all_goals simp

@[simp] theorem State.sessionStops_rest (s : State) (e : EndReason) :
    (s.sessionStops e).pins = s.pins ∧ (s.sessionStops e).mdu = s.mdu ∧ (s.sessionStops e).pvt = s.pvt ∧
    (s.sessionStops e).clock = s.clock ∧ (s.sessionStops e).freeIndex = s.freeIndex ∧
    (s.sessionStops e).pending = s.pending := by
  unfold State.sessionStops
  repeat' split
  all_goals simp

@[simp] theorem State.offerTime_rest (s : State) (d n : Nat) :
    (s.offerTime d n).pins = s.pins ∧ (s.offerTime d n).mdu = s.mdu ∧ (s.offerTime d n).mfe = s.mfe ∧
    (s.offerTime d n).pbi = s.pbi ∧ (s.offerTime d n).pvt = s.pvt ∧ (s.offerTime d n).thu = s.thu ∧
    (s.offerTime d n).she = s.she ∧ (s.offerTime d n).imon = s.imon ∧ (s.offerTime d n).slu = s.slu ∧
    (s.offerTime d n).flu = s.flu ∧ (s.offerTime d n).store = s.store ∧
    (s.offerTime d n).freeIndex = s.freeIndex ∧ (s.offerTime d n).pending = s.pending := by
  unfold State.offerTime
  repeat' split
  all_goals simp

@[simp] theorem State.acceptContract_rest (s : State) (n : Nat) (p : List Byte) :
    (s.acceptContract n p).pins = s.pins ∧ (s.acceptContract n p).mdu = s.mdu ∧
    (s.acceptContract n p).freeIndex = s.freeIndex ∧ (s.acceptContract n p).pending = s.pending := by
  unfold State.acceptContract
  simp

@[simp] theorem State.restartLoss_rest (s : State) :
    s.restartLoss.pins = s.pins ∧ s.restartLoss.mdu = s.mdu ∧ s.restartLoss.mfe = s.mfe ∧
    s.restartLoss.pbi = s.pbi ∧ s.restartLoss.clock = s.clock ∧ s.restartLoss.thu = s.thu ∧
    s.restartLoss.she = s.she ∧ s.restartLoss.imon = s.imon ∧ s.restartLoss.emt = s.emt ∧
    s.restartLoss.slu = s.slu ∧ s.restartLoss.flu = s.flu ∧ s.restartLoss.store = s.store ∧
    s.restartLoss.freeIndex = s.freeIndex ∧ s.restartLoss.pending = s.pending := by
  unfold State.restartLoss
  simp

@[simp] theorem State.enterConflict_rest (s : State) (r : Contract) (n : Nat) :
    (s.enterConflict r n).pins = s.pins ∧ (s.enterConflict r n).mdu = s.mdu ∧
    (s.enterConflict r n).clock = s.clock ∧ (s.enterConflict r n).freeIndex = s.freeIndex ∧
    (s.enterConflict r n).pending = s.pending := by
  unfold State.enterConflict
  simp

@[simp] theorem State.contractArrives_rest (s : State) (n : Nat) (p : List Byte) :
    (s.contractArrives n p).pins = s.pins ∧ (s.contractArrives n p).mdu = s.mdu ∧
    (s.contractArrives n p).freeIndex = s.freeIndex ∧ (s.contractArrives n p).pending = s.pending := by
  unfold State.contractArrives
  repeat' split
  all_goals simp

@[simp] theorem State.loseContract_rest (s : State) :
    s.loseContract.pins = s.pins ∧ s.loseContract.mdu = s.mdu ∧ s.loseContract.clock = s.clock ∧
    s.loseContract.freeIndex = s.freeIndex ∧ s.loseContract.pending = s.pending := by
  unfold State.loseContract
  simp

@[simp] theorem State.haltArrives_rest (s : State) (n : Nat) :
    (s.haltArrives n).pins = s.pins ∧ (s.haltArrives n).mdu = s.mdu ∧ (s.haltArrives n).clock = s.clock ∧
    (s.haltArrives n).freeIndex = s.freeIndex ∧ (s.haltArrives n).pending = s.pending := by
  unfold State.haltArrives
  repeat' split
  all_goals simp

/-! ## Mode unit -/

@[simp] theorem State.monitorMode_rest (s : State) :
    s.monitorMode.pins = s.pins ∧ s.monitorMode.mdu = s.mdu ∧ s.monitorMode.pvt = s.pvt ∧
    s.monitorMode.clock = s.clock ∧ s.monitorMode.thu = s.thu ∧ s.monitorMode.she = s.she ∧
    s.monitorMode.emt = s.emt ∧ s.monitorMode.slu = s.slu ∧ s.monitorMode.flu = s.flu ∧
    s.monitorMode.store = s.store ∧ s.monitorMode.freeIndex = s.freeIndex ∧
    s.monitorMode.pending = s.pending := by
  unfold State.monitorMode
  repeat' split
  all_goals simp

@[simp] theorem State.shareMode_rest (s : State) :
    s.shareMode.pins = s.pins ∧ s.shareMode.mdu = s.mdu ∧ s.shareMode.mfe = s.mfe ∧
    s.shareMode.pbi = s.pbi ∧ s.shareMode.pvt = s.pvt ∧ s.shareMode.clock = s.clock ∧
    s.shareMode.imon = s.imon ∧ s.shareMode.emt = s.emt ∧ s.shareMode.slu = s.slu ∧
    s.shareMode.flu = s.flu ∧ s.shareMode.store = s.store ∧ s.shareMode.freeIndex = s.freeIndex ∧
    s.shareMode.pending = s.pending := by
  unfold State.shareMode
  repeat' split
  all_goals simp

@[simp] theorem State.modeReport_rest (s : State) :
    s.modeReport.pins = s.pins ∧ s.modeReport.mdu = s.mdu ∧ s.modeReport.pvt = s.pvt ∧
    s.modeReport.clock = s.clock ∧ s.modeReport.flu = s.flu ∧ s.modeReport.store = s.store ∧
    s.modeReport.freeIndex = s.freeIndex ∧ s.modeReport.pending = s.pending := by
  unfold State.modeReport
  simp

@[simp] theorem State.sessionPowerFail_rest (s : State) :
    s.sessionPowerFail.pins = s.pins ∧ s.sessionPowerFail.mdu = s.mdu ∧ s.sessionPowerFail.pvt = s.pvt ∧
    s.sessionPowerFail.clock = s.clock ∧ s.sessionPowerFail.freeIndex = s.freeIndex ∧
    s.sessionPowerFail.pending = s.pending := by
  unfold State.sessionPowerFail
  repeat' split
  all_goals simp

@[simp] theorem State.thermalShutdown_rest (s : State) :
    s.thermalShutdown.pins = s.pins ∧ s.thermalShutdown.mdu = s.mdu ∧ s.thermalShutdown.mfe = s.mfe ∧
    s.thermalShutdown.pbi = s.pbi ∧ s.thermalShutdown.pvt = s.pvt ∧ s.thermalShutdown.clock = s.clock ∧
    s.thermalShutdown.she = s.she ∧ s.thermalShutdown.imon = s.imon ∧ s.thermalShutdown.emt = s.emt ∧
    s.thermalShutdown.slu = s.slu ∧ s.thermalShutdown.flu = s.flu ∧ s.thermalShutdown.store = s.store ∧
    s.thermalShutdown.freeIndex = s.freeIndex ∧ s.thermalShutdown.pending = s.pending := by
  unfold State.thermalShutdown
  simp

@[simp] theorem State.takePowerFail_rest (s : State) :
    s.takePowerFail.pins = s.pins ∧ s.takePowerFail.pvt = s.pvt ∧ s.takePowerFail.clock = s.clock ∧
    s.takePowerFail.freeIndex = s.freeIndex ∧ s.takePowerFail.pending = s.pending := by
  unfold State.takePowerFail
  simp

@[simp] theorem State.examineHeld_rest (s : State) :
    s.examineHeld.pins = s.pins ∧ s.examineHeld.pvt = s.pvt ∧ s.examineHeld.clock = s.clock ∧
    s.examineHeld.freeIndex = s.freeIndex ∧ s.examineHeld.pending = s.pending := by
  unfold State.examineHeld
  repeat' split
  all_goals simp

@[simp] theorem State.startConverters_rest (s : State) :
    s.startConverters.pins = s.pins ∧ s.startConverters.mdu = s.mdu ∧ s.startConverters.pbi = s.pbi ∧
    s.startConverters.pvt = s.pvt ∧ s.startConverters.clock = s.clock ∧ s.startConverters.she = s.she ∧
    s.startConverters.imon = s.imon ∧ s.startConverters.emt = s.emt ∧ s.startConverters.slu = s.slu ∧
    s.startConverters.flu = s.flu ∧ s.startConverters.store = s.store ∧
    s.startConverters.freeIndex = s.freeIndex ∧ s.startConverters.pending = s.pending := by
  unfold State.startConverters
  simp

@[simp] theorem State.startBus_rest (s : State) :
    s.startBus.pins = s.pins ∧ s.startBus.mdu = s.mdu ∧ s.startBus.mfe = s.mfe ∧ s.startBus.pvt = s.pvt ∧
    s.startBus.clock = s.clock ∧ s.startBus.thu = s.thu ∧ s.startBus.she = s.she ∧
    s.startBus.imon = s.imon ∧ s.startBus.emt = s.emt ∧ s.startBus.slu = s.slu ∧ s.startBus.flu = s.flu ∧
    s.startBus.store = s.store ∧ s.startBus.freeIndex = s.freeIndex ∧ s.startBus.pending = s.pending := by
  unfold State.startBus
  simp

@[simp] theorem State.startBeacons_rest (s : State) :
    s.startBeacons.pins = s.pins ∧ s.startBeacons.mfe = s.mfe ∧ s.startBeacons.pbi = s.pbi ∧
    s.startBeacons.pvt = s.pvt ∧ s.startBeacons.clock = s.clock ∧ s.startBeacons.thu = s.thu ∧
    s.startBeacons.she = s.she ∧ s.startBeacons.imon = s.imon ∧ s.startBeacons.emt = s.emt ∧
    s.startBeacons.slu = s.slu ∧ s.startBeacons.flu = s.flu ∧ s.startBeacons.store = s.store ∧
    s.startBeacons.freeIndex = s.freeIndex ∧ s.startBeacons.pending = s.pending := by
  unfold State.startBeacons
  simp

@[simp] theorem State.enterListening_rest (s : State) :
    s.enterListening.pins = s.pins ∧ s.enterListening.pvt = s.pvt ∧ s.enterListening.clock = s.clock ∧
    s.enterListening.freeIndex = s.freeIndex ∧ s.enterListening.pending = s.pending := by
  unfold State.enterListening
  simp

@[simp] theorem State.endStartPassed_rest (s : State) (c : ImageConfig) :
    (s.endStartPassed c).pins = s.pins ∧ (s.endStartPassed c).pvt = s.pvt ∧
    (s.endStartPassed c).clock = s.clock ∧ (s.endStartPassed c).freeIndex = s.freeIndex ∧
    (s.endStartPassed c).pending = s.pending := by
  unfold State.endStartPassed
  simp

@[simp] theorem State.endStartFailed_rest (s : State) :
    s.endStartFailed.pins = s.pins ∧ s.endStartFailed.pvt = s.pvt ∧ s.endStartFailed.clock = s.clock ∧
    s.endStartFailed.freeIndex = s.freeIndex ∧ s.endStartFailed.pending = s.pending := by
  unfold State.endStartFailed
  simp

@[simp] theorem State.startTest_rest (s : State) :
    s.startTest.pins = s.pins ∧ s.startTest.pvt = s.pvt ∧ s.startTest.clock = s.clock ∧
    s.startTest.freeIndex = s.freeIndex ∧ s.startTest.pending = s.pending := by
  unfold State.startTest
  repeat' split
  all_goals simp

@[simp] theorem State.failImage_rest (s : State) :
    s.failImage.pins = s.pins ∧ s.failImage.mfe = s.mfe ∧ s.failImage.pbi = s.pbi ∧
    s.failImage.pvt = s.pvt ∧ s.failImage.clock = s.clock ∧ s.failImage.thu = s.thu ∧
    s.failImage.she = s.she ∧ s.failImage.imon = s.imon ∧ s.failImage.emt = s.emt ∧
    s.failImage.slu = s.slu ∧ s.failImage.store = s.store ∧ s.failImage.freeIndex = s.freeIndex ∧
    s.failImage.pending = s.pending := by
  unfold State.failImage
  simp

@[simp] theorem State.scanSlot_rest (s : State) (k : Fin 16) (f : Option Nat) :
    (s.scanSlot k f).pins = s.pins ∧ (s.scanSlot k f).mfe = s.mfe ∧ (s.scanSlot k f).pbi = s.pbi ∧
    (s.scanSlot k f).pvt = s.pvt ∧ (s.scanSlot k f).clock = s.clock ∧ (s.scanSlot k f).thu = s.thu ∧
    (s.scanSlot k f).she = s.she ∧ (s.scanSlot k f).imon = s.imon ∧ (s.scanSlot k f).emt = s.emt ∧
    (s.scanSlot k f).flu = s.flu ∧ (s.scanSlot k f).store = s.store ∧
    (s.scanSlot k f).freeIndex = s.freeIndex ∧ (s.scanSlot k f).pending = s.pending := by
  unfold State.scanSlot
  simp

@[simp] theorem State.enterRun_rest (s : State) :
    s.enterRun.pins = s.pins ∧ s.enterRun.pvt = s.pvt ∧ s.enterRun.clock = s.clock ∧
    s.enterRun.flu = s.flu ∧ s.enterRun.store = s.store ∧ s.enterRun.freeIndex = s.freeIndex ∧
    s.enterRun.pending = s.pending := by
  unfold State.enterRun
  simp

@[simp] theorem State.ageAndClaim_rest (s : State) (a : Bool) :
    (s.ageAndClaim a).pins = s.pins ∧ (s.ageAndClaim a).mdu = s.mdu ∧ (s.ageAndClaim a).mfe = s.mfe ∧
    (s.ageAndClaim a).pbi = s.pbi ∧ (s.ageAndClaim a).clock = s.clock ∧ (s.ageAndClaim a).imon = s.imon ∧
    (s.ageAndClaim a).emt = s.emt ∧ (s.ageAndClaim a).slu = s.slu ∧ (s.ageAndClaim a).flu = s.flu ∧
    (s.ageAndClaim a).store = s.store ∧ (s.ageAndClaim a).freeIndex = s.freeIndex ∧
    (s.ageAndClaim a).pending = s.pending := by
  unfold State.ageAndClaim
  repeat' split
  all_goals simp

@[simp] theorem State.listenOn_rest (s : State) :
    s.listenOn.pins = s.pins ∧ s.listenOn.pvt = s.pvt ∧ s.listenOn.clock = s.clock ∧
    s.listenOn.flu = s.flu ∧ s.listenOn.store = s.store ∧ s.listenOn.freeIndex = s.freeIndex ∧
    s.listenOn.pending = s.pending := by
  unfold State.listenOn
  repeat' split
  all_goals simp

@[simp] theorem State.beaconPeriodFires_rest (s : State) (a : Bool) :
    (s.beaconPeriodFires a).pins = s.pins ∧ (s.beaconPeriodFires a).clock = s.clock ∧
    (s.beaconPeriodFires a).flu = s.flu ∧ (s.beaconPeriodFires a).store = s.store ∧
    (s.beaconPeriodFires a).freeIndex = s.freeIndex ∧ (s.beaconPeriodFires a).pending = s.pending := by
  unfold State.beaconPeriodFires
  simp

@[simp] theorem State.enterDormant_rest (s : State) :
    s.enterDormant.pins = s.pins ∧ s.enterDormant.clock = s.clock ∧ s.enterDormant.emt = s.emt ∧
    s.enterDormant.slu = s.slu ∧ s.enterDormant.flu = s.flu ∧ s.enterDormant.store = s.store ∧
    s.enterDormant.freeIndex = s.freeIndex ∧ s.enterDormant.pending = s.pending := by
  unfold State.enterDormant
  simp

@[simp] theorem State.dormantTest_rest (b s : State) :
    (b.dormantTest s).pins = s.pins ∧ (b.dormantTest s).clock = s.clock ∧ (b.dormantTest s).emt = s.emt ∧
    (b.dormantTest s).slu = s.slu ∧ (b.dormantTest s).flu = s.flu ∧ (b.dormantTest s).store = s.store ∧
    (b.dormantTest s).freeIndex = s.freeIndex ∧ (b.dormantTest s).pending = s.pending := by
  unfold State.dormantTest
  split <;> simp

@[simp] theorem State.wake_rest (s : State) :
    s.wake.pins = s.pins ∧ s.wake.mfe = s.mfe ∧ s.wake.pbi = s.pbi ∧ s.wake.pvt = s.pvt ∧
    s.wake.clock = s.clock ∧ s.wake.thu = s.thu ∧ s.wake.she = s.she ∧ s.wake.imon = s.imon ∧
    s.wake.emt = s.emt ∧ s.wake.slu = s.slu ∧ s.wake.flu = s.flu ∧ s.wake.store = s.store ∧
    s.wake.freeIndex = s.freeIndex ∧ s.wake.pending = s.pending := by
  unfold State.wake
  simp

end Sys2Proof.Machine
end

