-- ==== Sys2Proof/Laws/Memory.lean ====
section
/-! SUPPORT. The retained store: a read after a write, what a write leaves alone, and the canonical form that
every operation keeps. -/

namespace Sys2Proof.Machine

/-! ## The canonical form -/

theorem wfFrom_of_le {m : Memory} {lo lo' : Nat} (h : wfFrom lo m = true) (hle : lo' ≤ lo) :
    wfFrom lo' m = true := by
  cases m with
  | nil => rfl
  | cons c rest =>
    simp only [wfFrom, Bool.and_eq_true, decide_eq_true_eq] at h ⊢
    exact ⟨⟨hle.trans h.1.1, h.1.2⟩, h.2⟩

/-- An address below the first listed one reads as blank. -/
theorem readByte_below {m : Memory} {lo a : Nat} (h : wfFrom lo m = true) (ha : a < lo) :
    readByte m a = blankByte := by
  induction m generalizing lo with
  | nil => rfl
  | cons c rest ih =>
    simp only [wfFrom, Bool.and_eq_true, decide_eq_true_eq] at h
    have hne : c.1 ≠ a := by omega
    simp only [readByte, hne, if_false]
    exact ih h.2 (by omega)

theorem writeByte_wfFrom {m : Memory} {lo a : Nat} (b : Byte) (h : wfFrom lo m = true) (ha : lo ≤ a) :
    wfFrom lo (writeByte m a b) = true := by
  induction m generalizing lo with
  | nil => by_cases hb : b = blankByte <;> simp [writeByte, wfFrom, hb, ha]
  | cons c rest ih =>
    simp only [wfFrom, Bool.and_eq_true, decide_eq_true_eq] at h
    obtain ⟨⟨hlo, hv⟩, hrest⟩ := h
    by_cases hlt : a < c.1
    · have : wfFrom (a + 1) (c :: rest) = true := by
        simp only [wfFrom, Bool.and_eq_true, decide_eq_true_eq]; exact ⟨⟨by omega, hv⟩, hrest⟩
      by_cases hb : b = blankByte
      · simpa [writeByte, hlt, hb] using wfFrom_of_le this (by omega)
      · simp only [writeByte, hlt, hb, if_true, if_false]
        simp [wfFrom, ha, hb] at this ⊢; exact this
    · by_cases heq : a = c.1
      · by_cases hb : b = blankByte
        · simpa [writeByte, heq, hb] using wfFrom_of_le hrest (by omega)
        · simp only [writeByte, heq, hb, if_false, lt_irrefl, if_true]
          simp [wfFrom, hlo, hb, hrest]
      · simp only [writeByte, hlt, heq, if_false]
        simp only [wfFrom, Bool.and_eq_true, decide_eq_true_eq]
        exact ⟨⟨hlo, hv⟩, ih hrest (by omega)⟩

/-- A written byte keeps the canonical form. -/
theorem writeByte_wf {m : Memory} (a : Nat) (b : Byte) (h : Memory.wf m = true) :
    Memory.wf (writeByte m a b) = true :=
  writeByte_wfFrom b h (Nat.zero_le a)

theorem writeBytes_wf {m : Memory} (a : Nat) (l : List Byte) (h : Memory.wf m = true) :
    Memory.wf (writeBytes m a l) = true := by
  induction l generalizing m a with
  | nil => exact h
  | cons b rest ih => exact ih (a + 1) (writeByte_wf a b h)

theorem clearMarker_wf {m : Memory} (slot : Fin 16) (h : Memory.wf m = true) :
    Memory.wf (clearMarker m slot) = true :=
  writeByte_wf _ _ h

theorem commitRecord_wf {m : Memory} (slot : Fin 16) (record : List Byte) (h : Memory.wf m = true) :
    Memory.wf (commitRecord m slot record) = true :=
  writeByte_wf _ _ (writeBytes_wf _ _ h)

/-- The store of the reset state has the canonical form. -/
theorem reset_store_wf : Memory.wf State.reset.store = true := rfl

/-! ## Reads after writes -/

theorem readByte_writeByte_from {m : Memory} {lo : Nat} (a x : Nat) (b : Byte) (h : wfFrom lo m = true) :
    readByte (writeByte m a b) x = if x = a then b else readByte m x := by
  induction m generalizing lo with
  | nil =>
    by_cases hb : b = blankByte <;> by_cases hx : x = a <;> simp [writeByte, readByte, hb, hx]
    exact fun h => absurd h.symm hx
  | cons c rest ih =>
    obtain ⟨k, v⟩ := c
    simp only [wfFrom, Bool.and_eq_true, decide_eq_true_eq] at h
    obtain ⟨_, hrest⟩ := h
    by_cases hlt : a < k
    · have hbelow : readByte rest a = blankByte := readByte_below hrest (by omega)
      by_cases hb : b = blankByte <;> by_cases hx : x = a <;>
        simp only [writeByte, hlt, hb, hx, if_true, if_false, readByte]
      · rw [if_neg (by omega), hbelow]
      · rw [if_neg (fun h => hx h.symm)]
    · by_cases heq : a = k
      · subst heq
        have hbelow : readByte rest a = blankByte := readByte_below hrest (by omega)
        by_cases hb : b = blankByte <;> by_cases hx : x = a <;>
          simp only [writeByte, hb, hx, lt_irrefl, if_true, if_false, readByte]
        · exact hbelow
        · rw [if_neg (fun h => hx h.symm)]
        · rw [if_neg (fun h => hx h.symm), if_neg (fun h => hx h.symm)]
      · simp only [writeByte, hlt, heq, if_false, readByte]
        by_cases hx : k = x
        · subst hx; simp [Ne.symm heq]
        · simp only [hx, if_false]; exact ih hrest

/-- A byte of a store in canonical form after a write: the value written at its address, any other as before. -/
theorem readByte_writeByte {m : Memory} (h : Memory.wf m = true) (a x : Nat) (b : Byte) :
    readByte (writeByte m a b) x = if x = a then b else readByte m x :=
  readByte_writeByte_from a x b h

/-- A byte after a run of writes: the byte of the list at its place, any other as before. -/
theorem readByte_writeBytes {m : Memory} (h : Memory.wf m = true) (l : List Byte) (a x : Nat) :
    readByte (writeBytes m a l) x =
      if a ≤ x ∧ x < a + l.length then l.getD (x - a) 0 else readByte m x := by
  induction l generalizing m a with
  | nil => simp [writeBytes]
  | cons b rest ih =>
    rw [writeBytes, ih (writeByte_wf a b h) (a + 1), readByte_writeByte h]
    simp only [List.length_cons]
    rcases Nat.lt_trichotomy x a with hx | hx | hx
    · rw [if_neg (by omega), if_neg (by omega), if_neg (by omega)]
    · subst hx; rw [if_neg (by omega), if_pos rfl, if_pos (by omega)]; simp
    · have he : x - a = (x - (a + 1)) + 1 := by omega
      by_cases hin : x < a + (rest.length + 1)
      · rw [if_pos (by omega), if_pos (by omega), he, List.getD_cons_succ]
      · rw [if_neg (by omega), if_neg (by omega), if_neg (by omega)]

@[simp] theorem readBytes_length (m : Memory) (a n : Nat) : (readBytes m a n).length = n := by
  induction n generalizing a with
  | zero => rfl
  | succ n ih => simp [readBytes, ih]

/-- What a run of reads gives at a place. -/
theorem readBytes_getElem? (m : Memory) (a n j : Nat) (hj : j < n) :
    (readBytes m a n)[j]? = some (readByte m (a + j)) := by
  induction n generalizing a j with
  | zero => omega
  | succ n ih =>
    cases j with
    | zero => rfl
    | succ j =>
      rw [readBytes, List.getElem?_cons_succ, ih (a + 1) j (by omega)]
      congr 2; omega

end Sys2Proof.Machine
end

