-- ==== Sys2Proof/Laws/State.lean ====
section
/-! SUPPORT. What each update of the state puts into every field of the block it changes; the blocks it leaves
alone are in Laws/Frames.lean. -/

namespace Sys2Proof.Machine

/-! ## Peer bus interface -/

@[simp] theorem State.draw_fields (s : State) :
    s.draw.pbi.quiet = s.pbi.quiet ∧ s.draw.pbi.foreign = s.pbi.foreign ∧
    s.draw.pbi.receiving = s.pbi.receiving ∧ s.draw.pbi.intent = s.pbi.intent ∧
    s.draw.pbi.result = s.pbi.result ∧ s.draw.pbi.beacon = s.pbi.beacon ∧
    s.draw.pbi.logReply = s.pbi.logReply ∧ s.draw.pbi.heldIntent = s.pbi.heldIntent ∧
    s.draw.pbi.heldResult = s.pbi.heldResult ∧ s.draw.pbi.heldBeacon = s.pbi.heldBeacon ∧
    s.draw.pbi.withdrawn = s.pbi.withdrawn ∧ s.draw.pbi.attempt = s.pbi.attempt ∧
    s.draw.pbi.holdoff = s.pbi.holdoff ∧ s.draw.pbi.random = nextRandom s.pbi.random := by
  simp [State.draw]

@[simp] theorem State.loadReply_fields (s : State) (p : List Byte) :
    (s.loadReply p).pbi.quiet = s.pbi.quiet ∧ (s.loadReply p).pbi.foreign = s.pbi.foreign ∧
    (s.loadReply p).pbi.receiving = s.pbi.receiving ∧ (s.loadReply p).pbi.intent = s.pbi.intent ∧
    (s.loadReply p).pbi.result = s.pbi.result ∧ (s.loadReply p).pbi.beacon = s.pbi.beacon ∧
    (s.loadReply p).pbi.logReply = some (TxSlot.fresh p) ∧
    (s.loadReply p).pbi.heldIntent = s.pbi.heldIntent ∧
    (s.loadReply p).pbi.heldResult = s.pbi.heldResult ∧
    (s.loadReply p).pbi.heldBeacon = s.pbi.heldBeacon ∧ (s.loadReply p).pbi.withdrawn = s.pbi.withdrawn ∧
    (s.loadReply p).pbi.attempt = s.pbi.attempt ∧ (s.loadReply p).pbi.holdoff = s.pbi.holdoff ∧
    (s.loadReply p).pbi.random = s.pbi.random := by
  simp [State.loadReply]

@[simp] theorem State.takeUpEnds_fields (s : State) :
    s.takeUpEnds.pbi.quiet = s.pbi.quiet ∧ s.takeUpEnds.pbi.foreign = false ∧
    s.takeUpEnds.pbi.receiving = false ∧ s.takeUpEnds.pbi.intent = s.pbi.intent ∧
    s.takeUpEnds.pbi.result = s.pbi.result ∧ s.takeUpEnds.pbi.beacon = s.pbi.beacon ∧
    s.takeUpEnds.pbi.logReply = s.pbi.logReply ∧ s.takeUpEnds.pbi.heldIntent = s.pbi.heldIntent ∧
    s.takeUpEnds.pbi.heldResult = s.pbi.heldResult ∧ s.takeUpEnds.pbi.heldBeacon = s.pbi.heldBeacon ∧
    s.takeUpEnds.pbi.withdrawn = s.pbi.withdrawn ∧ s.takeUpEnds.pbi.attempt = s.pbi.attempt ∧
    s.takeUpEnds.pbi.holdoff = s.pbi.holdoff ∧ s.takeUpEnds.pbi.random = s.pbi.random := by
  simp [State.takeUpEnds]

@[simp] theorem State.telegramEnds_fields (s : State) :
    s.telegramEnds.pbi.quiet = 0 ∧ s.telegramEnds.pbi.foreign = false ∧
    s.telegramEnds.pbi.receiving = false ∧ s.telegramEnds.pbi.intent = s.pbi.intent ∧
    s.telegramEnds.pbi.result = s.pbi.result ∧ s.telegramEnds.pbi.beacon = s.pbi.beacon ∧
    s.telegramEnds.pbi.logReply = s.pbi.logReply ∧ s.telegramEnds.pbi.heldIntent = s.pbi.heldIntent ∧
    s.telegramEnds.pbi.heldResult = s.pbi.heldResult ∧ s.telegramEnds.pbi.heldBeacon = s.pbi.heldBeacon ∧
    s.telegramEnds.pbi.withdrawn = s.pbi.withdrawn ∧ s.telegramEnds.pbi.attempt = s.pbi.attempt ∧
    s.telegramEnds.pbi.holdoff = s.pbi.holdoff ∧ s.telegramEnds.pbi.random = s.pbi.random := by
  simp [State.telegramEnds]

@[simp] theorem State.beginAttempt_fields (s : State) (k : SlotKind) :
    (s.beginAttempt k).pbi.quiet = 0 ∧ (s.beginAttempt k).pbi.foreign = s.pbi.foreign ∧
    (s.beginAttempt k).pbi.receiving = true ∧ (s.beginAttempt k).pbi.intent = s.pbi.intent ∧
    (s.beginAttempt k).pbi.result = s.pbi.result ∧ (s.beginAttempt k).pbi.beacon = s.pbi.beacon ∧
    (s.beginAttempt k).pbi.logReply = s.pbi.logReply ∧
    (s.beginAttempt k).pbi.heldIntent = s.pbi.heldIntent ∧
    (s.beginAttempt k).pbi.heldResult = s.pbi.heldResult ∧
    (s.beginAttempt k).pbi.heldBeacon = s.pbi.heldBeacon ∧
    (s.beginAttempt k).pbi.withdrawn = s.pbi.withdrawn ∧
    (s.beginAttempt k).pbi.attempt = some
      { slot := k, telegram := s.slotTelegram k, claim := s.she.claim,
        left := wireTime (s.slotTelegram k) } ∧
    (s.beginAttempt k).pbi.holdoff = s.pbi.holdoff ∧ (s.beginAttempt k).pbi.random = s.pbi.random := by
  simp [State.beginAttempt]

/-! ## Peer view -/

@[simp] theorem State.setView_fields (s : State) (v : List Entry) :
    (s.setView v).pvt.view = v ∧
    (s.setView v).pvt.record = s.pvt.record.map (Contract.resolve s.pvt.view v) ∧
    (s.setView v).pvt.lossTimer = s.pvt.lossTimer ∧ (s.setView v).pvt.halted = s.pvt.halted := by
  simp [State.setView]

@[simp] theorem State.restartLoss_fields (s : State) :
    s.restartLoss.pvt.view = s.pvt.view ∧ s.restartLoss.pvt.record = s.pvt.record ∧
    s.restartLoss.pvt.lossTimer = some lossTime ∧ s.restartLoss.pvt.halted = s.pvt.halted := by
  simp [State.restartLoss]

/-! ## Measurement front end -/

@[simp] theorem State.keepSample_fields (s : State) (v : Int) :
    (s.keepSample v).mfe.count = s.mfe.count + 1 ∧ (s.keepSample v).mfe.vPrev = some v ∧
    (s.keepSample v).mfe.tAcc = s.mfe.tAcc ∧ (s.keepSample v).mfe.line = s.mfe.line ∧
    (s.keepSample v).mfe.settle = s.mfe.settle ∧ (s.keepSample v).mfe.badPeriod = s.mfe.badPeriod ∧
    (s.keepSample v).mfe.badUrms = s.mfe.badUrms ∧ (s.keepSample v).mfe.loss = s.mfe.loss ∧
    (s.keepSample v).mfe.sumV2 = s.mfe.sumV2 ∧ (s.keepSample v).mfe.sumI2 = s.mfe.sumI2 ∧
    (s.keepSample v).mfe.n = s.mfe.n ∧ (s.keepSample v).mfe.urms = s.mfe.urms ∧
    (s.keepSample v).mfe.irms = s.mfe.irms ∧ (s.keepSample v).mfe.scanning = s.mfe.scanning ∧
    (s.keepSample v).mfe.scanTimer = s.mfe.scanTimer ∧ (s.keepSample v).mfe.record = s.mfe.record ∧
    (s.keepSample v).mfe.history = s.mfe.history ∧ (s.keepSample v).mfe.refCount = s.mfe.refCount ∧
    (s.keepSample v).mfe.insClock = s.mfe.insClock := by
  simp [State.keepSample]

@[simp] theorem State.publishScan_fields (s : State) (r : ScanRecord) :
    (s.publishScan r).mfe.count = s.mfe.count ∧ (s.publishScan r).mfe.vPrev = s.mfe.vPrev ∧
    (s.publishScan r).mfe.tAcc = s.mfe.tAcc ∧ (s.publishScan r).mfe.line = s.mfe.line ∧
    (s.publishScan r).mfe.settle = s.mfe.settle ∧ (s.publishScan r).mfe.badPeriod = s.mfe.badPeriod ∧
    (s.publishScan r).mfe.badUrms = s.mfe.badUrms ∧ (s.publishScan r).mfe.loss = s.mfe.loss ∧
    (s.publishScan r).mfe.sumV2 = s.mfe.sumV2 ∧ (s.publishScan r).mfe.sumI2 = s.mfe.sumI2 ∧
    (s.publishScan r).mfe.n = s.mfe.n ∧ (s.publishScan r).mfe.urms = s.mfe.urms ∧
    (s.publishScan r).mfe.irms = s.mfe.irms ∧ (s.publishScan r).mfe.scanning = false ∧
    (s.publishScan r).mfe.scanTimer = s.mfe.scanTimer ∧ (s.publishScan r).mfe.record = r ∧
    (s.publishScan r).mfe.history = s.mfe.history ∧ (s.publishScan r).mfe.refCount = s.mfe.refCount ∧
    (s.publishScan r).mfe.insClock = s.mfe.insClock := by
  simp [State.publishScan]

/-! ## Thermal unit -/

@[simp] theorem State.applyDuty_fields (s : State) :
    s.applyDuty.thu.validCount = s.thu.validCount ∧ s.applyDuty.thu.tmin = s.thu.tmin ∧
    s.applyDuty.thu.tmax = s.thu.tmax ∧ s.applyDuty.thu.sensorFault = s.thu.sensorFault ∧
    s.applyDuty.thu.heater = s.thu.heater ∧ s.applyDuty.thu.capT = s.thu.capT ∧
    s.applyDuty.thu.taper = s.thu.taper ∧ s.applyDuty.thu.idcCap = s.thu.idcCap ∧
    s.applyDuty.thu.dutyReq = s.thu.dutyReq ∧ s.applyDuty.thu.phFull = s.thu.phFull ∧
    s.applyDuty.thu.phReq = s.thu.phReq ∧ s.applyDuty.thu.inForce = s.gatedDuty ∧
    s.applyDuty.thu.step = s.thu.step ∧ s.applyDuty.thu.stepTimer = s.thu.stepTimer ∧
    s.applyDuty.thu.htr = (s.thu.htr && !(s.gatedDuty < s.thu.inForce && s.gatedDuty ≤ s.thu.step)) := by
  simp [State.applyDuty]

@[simp] theorem State.cellStep_fields (s : State) :
    s.cellStep.thu.validCount = (cellTemps s.mfe.record.temps).length ∧
    s.cellStep.thu.tmin = lowestOf (cellTemps s.mfe.record.temps) ∧
    s.cellStep.thu.tmax = highestOf (cellTemps s.mfe.record.temps) ∧
    s.cellStep.thu.sensorFault = s.thu.sensorFault ∧ s.cellStep.thu.heater = s.thu.heater ∧
    s.cellStep.thu.capT = s.thu.capT ∧ s.cellStep.thu.taper = s.thu.taper ∧
    s.cellStep.thu.idcCap = s.thu.idcCap ∧ s.cellStep.thu.dutyReq = s.thu.dutyReq ∧
    s.cellStep.thu.phFull = s.thu.phFull ∧ s.cellStep.thu.phReq = s.thu.phReq ∧
    s.cellStep.thu.inForce = s.thu.inForce ∧ s.cellStep.thu.step = s.thu.step ∧
    s.cellStep.thu.stepTimer = s.thu.stepTimer ∧ s.cellStep.thu.htr = s.thu.htr := by
  simp [State.cellStep]

@[simp] theorem State.capStep_fields (s : State) :
    s.capStep.thu.validCount = s.thu.validCount ∧ s.capStep.thu.tmin = s.thu.tmin ∧
    s.capStep.thu.tmax = s.thu.tmax ∧ s.capStep.thu.sensorFault = s.thu.sensorFault ∧
    s.capStep.thu.heater = s.thu.heater ∧ s.capStep.thu.capT = s.capNow ∧
    s.capStep.thu.taper = s.taperNow ∧
    s.capStep.thu.idcCap = min s.capNow (min s.taperNow s.mdu.cfg.imaxDc) ∧
    s.capStep.thu.dutyReq = s.thu.dutyReq ∧ s.capStep.thu.phFull = s.thu.phFull ∧
    s.capStep.thu.phReq = s.thu.phReq ∧ s.capStep.thu.inForce = s.thu.inForce ∧
    s.capStep.thu.step = s.thu.step ∧ s.capStep.thu.stepTimer = s.thu.stepTimer ∧
    s.capStep.thu.htr = s.thu.htr := by
  simp [State.capStep]

@[simp] theorem State.powerStep_fields (s : State) :
    s.powerStep.thu.validCount = s.thu.validCount ∧ s.powerStep.thu.tmin = s.thu.tmin ∧
    s.powerStep.thu.tmax = s.thu.tmax ∧ s.powerStep.thu.sensorFault = s.thu.sensorFault ∧
    s.powerStep.thu.heater = s.thu.heater ∧ s.powerStep.thu.capT = s.thu.capT ∧
    s.powerStep.thu.taper = s.thu.taper ∧ s.powerStep.thu.idcCap = s.thu.idcCap ∧
    s.powerStep.thu.dutyReq = s.dutyRequest ∧ s.powerStep.thu.phFull = fullPower s.ustr s.mdu.cfg.rh ∧
    s.powerStep.thu.phReq = s.dutyRequest * fullPower s.ustr s.mdu.cfg.rh / 16 ∧
    s.powerStep.thu.inForce = s.thu.inForce ∧ s.powerStep.thu.step = s.thu.step ∧
    s.powerStep.thu.stepTimer = s.thu.stepTimer ∧ s.powerStep.thu.htr = s.thu.htr := by
  simp [State.powerStep]

@[simp] theorem State.thermalShutdown_fields (s : State) :
    s.thermalShutdown.thu.validCount = s.thu.validCount ∧ s.thermalShutdown.thu.tmin = s.thu.tmin ∧
    s.thermalShutdown.thu.tmax = s.thu.tmax ∧ s.thermalShutdown.thu.sensorFault = s.thu.sensorFault ∧
    s.thermalShutdown.thu.heater = s.thu.heater ∧ s.thermalShutdown.thu.capT = s.thu.capT ∧
    s.thermalShutdown.thu.taper = s.thu.taper ∧ s.thermalShutdown.thu.idcCap = s.thu.idcCap ∧
    s.thermalShutdown.thu.dutyReq = s.thu.dutyReq ∧ s.thermalShutdown.thu.phFull = s.thu.phFull ∧
    s.thermalShutdown.thu.phReq = s.thu.phReq ∧ s.thermalShutdown.thu.inForce = 0 ∧
    s.thermalShutdown.thu.step = s.thu.step ∧ s.thermalShutdown.thu.stepTimer = s.thu.stepTimer ∧
    s.thermalShutdown.thu.htr = false := by
  simp [State.thermalShutdown]

/-! ## Share engine -/

@[simp] theorem State.setClaim_fields (s : State) (c : Nat) :
    (s.setClaim c).she.demand = s.she.demand ∧ (s.setClaim c).she.wanting = decide (c < s.she.demand) ∧
    (s.setClaim c).she.claim = c ∧ (s.setClaim c).she.claimTx = s.she.claimTx ∧
    (s.setClaim c).she.drawn = min c s.she.claimTx ∧ (s.setClaim c).she.pInAvail = s.she.pInAvail ∧
    (s.setClaim c).she.pDcAvail = s.she.pDcAvail ∧ (s.setClaim c).she.phApplied = s.she.phApplied ∧
    (s.setClaim c).she.dutyApplied = s.she.dutyApplied ∧ (s.setClaim c).she.idcSet = s.she.idcSet ∧
    (s.setClaim c).she.chgEn = s.she.chgEn ∧ (s.setClaim c).she.iRef = s.she.iRef ∧
    (s.setClaim c).she.overdrawTimer = s.she.overdrawTimer ∧ (s.setClaim c).she.hold = s.she.hold ∧
    (s.setClaim c).she.overdraw = s.she.overdraw := by
  simp [State.setClaim]

@[simp] theorem State.setDemand_fields (s : State) (d : Nat) :
    (s.setDemand d).she.demand = d ∧ (s.setDemand d).she.wanting = decide (s.she.claim < d) ∧
    (s.setDemand d).she.claim = s.she.claim ∧ (s.setDemand d).she.claimTx = s.she.claimTx ∧
    (s.setDemand d).she.drawn = s.she.drawn ∧ (s.setDemand d).she.pInAvail = s.she.pInAvail ∧
    (s.setDemand d).she.pDcAvail = s.she.pDcAvail ∧ (s.setDemand d).she.phApplied = s.she.phApplied ∧
    (s.setDemand d).she.dutyApplied = s.she.dutyApplied ∧ (s.setDemand d).she.idcSet = s.she.idcSet ∧
    (s.setDemand d).she.chgEn = s.she.chgEn ∧ (s.setDemand d).she.iRef = s.she.iRef ∧
    (s.setDemand d).she.overdrawTimer = s.she.overdrawTimer ∧ (s.setDemand d).she.hold = s.she.hold ∧
    (s.setDemand d).she.overdraw = s.she.overdraw := by
  simp [State.setDemand]

@[simp] theorem State.shareShutdown_fields (s : State) :
    s.shareShutdown.she.demand = 0 ∧ s.shareShutdown.she.wanting = false ∧
    s.shareShutdown.she.claim = 0 ∧ s.shareShutdown.she.claimTx = s.she.claimTx ∧
    s.shareShutdown.she.drawn = 0 ∧ s.shareShutdown.she.pInAvail = 0 ∧ s.shareShutdown.she.pDcAvail = 0 ∧
    s.shareShutdown.she.phApplied = 0 ∧ s.shareShutdown.she.dutyApplied = 0 ∧
    s.shareShutdown.she.idcSet = 0 ∧ s.shareShutdown.she.chgEn = false ∧ s.shareShutdown.she.iRef = 0 ∧
    s.shareShutdown.she.overdrawTimer = none ∧ s.shareShutdown.she.hold = false ∧
    s.shareShutdown.she.overdraw = s.she.overdraw := by
  simp [State.shareShutdown]

/-! ## Insulation monitor -/

@[simp] theorem State.setSeq_fields (s : State) (q : Seq) :
    (s.setSeq q).imon.seq = q ∧ (s.setSeq q).imon.timerFresh = q.timed ∧
    (s.setSeq q).imon.peerIntent = s.imon.peerIntent ∧ (s.setSeq q).imon.intentSeq = s.imon.intentSeq ∧
    (s.setSeq q).imon.sums = s.imon.sums ∧ (s.setSeq q).imon.noResponse = s.imon.noResponse ∧
    (s.setSeq q).imon.belowFault = s.imon.belowFault ∧ (s.setSeq q).imon.belowWarn = s.imon.belowWarn ∧
    (s.setSeq q).imon.aboveWarn = s.imon.aboveWarn ∧ (s.setSeq q).imon.insulation = s.imon.insulation ∧
    (s.setSeq q).imon.clearance = s.imon.clearance ∧ (s.setSeq q).imon.injecting = q.flag ∧
    (s.setSeq q).imon.isoSw = q.switch ∧ (s.setSeq q).mfe.count = s.mfe.count ∧
    (s.setSeq q).mfe.vPrev = s.mfe.vPrev ∧ (s.setSeq q).mfe.tAcc = s.mfe.tAcc ∧
    (s.setSeq q).mfe.line = s.mfe.line ∧ (s.setSeq q).mfe.settle = s.mfe.settle ∧
    (s.setSeq q).mfe.badPeriod = s.mfe.badPeriod ∧ (s.setSeq q).mfe.badUrms = s.mfe.badUrms ∧
    (s.setSeq q).mfe.loss = s.mfe.loss ∧ (s.setSeq q).mfe.sumV2 = s.mfe.sumV2 ∧
    (s.setSeq q).mfe.sumI2 = s.mfe.sumI2 ∧ (s.setSeq q).mfe.n = s.mfe.n ∧
    (s.setSeq q).mfe.urms = s.mfe.urms ∧ (s.setSeq q).mfe.irms = s.mfe.irms ∧
    (s.setSeq q).mfe.scanning = s.mfe.scanning ∧ (s.setSeq q).mfe.scanTimer = s.mfe.scanTimer ∧
    (s.setSeq q).mfe.record = s.mfe.record ∧ (s.setSeq q).mfe.history = s.mfe.history ∧
    (s.setSeq q).mfe.refCount = s.mfe.refCount ∧ (s.setSeq q).mfe.insClock = q.samplingClock := by
  simp [State.setSeq]

@[simp] theorem State.clearSums_fields (s : State) :
    s.clearSums.imon.seq = s.imon.seq ∧ s.clearSums.imon.timerFresh = s.imon.timerFresh ∧
    s.clearSums.imon.peerIntent = s.imon.peerIntent ∧ s.clearSums.imon.intentSeq = s.imon.intentSeq ∧
    s.clearSums.imon.sums = ⟨0, 0, 0, 0⟩ ∧ s.clearSums.imon.noResponse = s.imon.noResponse ∧
    s.clearSums.imon.belowFault = s.imon.belowFault ∧ s.clearSums.imon.belowWarn = s.imon.belowWarn ∧
    s.clearSums.imon.aboveWarn = s.imon.aboveWarn ∧ s.clearSums.imon.insulation = s.imon.insulation ∧
    s.clearSums.imon.clearance = s.imon.clearance ∧ s.clearSums.imon.injecting = s.imon.injecting ∧
    s.clearSums.imon.isoSw = s.imon.isoSw := by
  simp [State.clearSums]

/-! ## Session unit -/

@[simp] theorem State.commitBuffer_fields (s : State) (b : Buffer) :
    (s.commitBuffer b).slu.session = s.slu.session ∧ (s.commitBuffer b).slu.buffer = none ∧
    (s.commitBuffer b).slu.table = s.slu.table.set b.target.val (some b.record.seq) := by
  simp [State.commitBuffer]

/-! ## Mode unit and fault unit -/

@[simp] theorem State.updateAlert_fields (s : State) :
    s.updateAlert.flu.flags = s.flu.flags ∧ s.updateAlert.flu.alert = s.alertLevel := by
  simp [State.updateAlert]

@[simp] theorem State.wake_fields (s : State) :
    s.wake.mdu.mode = s.mdu.mode ∧ s.wake.mdu.settling = some settleTime ∧
    s.wake.mdu.station = s.mdu.station ∧ s.wake.mdu.phase = s.mdu.phase ∧ s.wake.mdu.cfg = s.mdu.cfg ∧
    s.wake.mdu.image = s.mdu.image ∧ s.wake.mdu.scan = s.mdu.scan ∧
    s.wake.mdu.beaconTimer = s.mdu.beaconTimer ∧ s.wake.mdu.listening = s.mdu.listening ∧
    s.wake.mdu.dormantTimer = s.mdu.dormantTimer ∧ s.wake.mdu.heldPwrFail = s.mdu.heldPwrFail := by
  simp [State.wake]

@[simp] theorem State.startBeacons_fields (s : State) :
    s.startBeacons.mdu.mode = s.mdu.mode ∧ s.startBeacons.mdu.settling = s.mdu.settling ∧
    s.startBeacons.mdu.station = s.mdu.station ∧ s.startBeacons.mdu.phase = s.mdu.phase ∧
    s.startBeacons.mdu.cfg = s.mdu.cfg ∧ s.startBeacons.mdu.image = s.mdu.image ∧
    s.startBeacons.mdu.scan = s.mdu.scan ∧ s.startBeacons.mdu.beaconTimer = some s.beaconPeriod ∧
    s.startBeacons.mdu.listening = s.mdu.listening ∧
    s.startBeacons.mdu.dormantTimer = s.mdu.dormantTimer ∧
    s.startBeacons.mdu.heldPwrFail = s.mdu.heldPwrFail := by
  simp [State.startBeacons]

@[simp] theorem State.failImage_fields (s : State) :
    s.failImage.mdu.mode = s.mdu.mode ∧ s.failImage.mdu.settling = s.mdu.settling ∧
    s.failImage.mdu.station = s.mdu.station ∧ s.failImage.mdu.phase = s.mdu.phase ∧
    s.failImage.mdu.cfg = s.mdu.cfg ∧ s.failImage.mdu.image = .failed ∧
    s.failImage.mdu.scan = s.mdu.scan ∧ s.failImage.mdu.beaconTimer = s.mdu.beaconTimer ∧
    s.failImage.mdu.listening = s.mdu.listening ∧ s.failImage.mdu.dormantTimer = s.mdu.dormantTimer ∧
    s.failImage.mdu.heldPwrFail = s.mdu.heldPwrFail ∧
    s.failImage.flu.flags = FlagSet.insert s.flu.flags .config ∧
    s.failImage.flu.alert = s.flu.alert := by
  simp [State.failImage]

end Sys2Proof.Machine
end

