-- ==== Sys2Proof/Laws/Operations.lean ====
section
/-! SUPPORT. For each shared operation, once, everything it can do: proofs take these cases instead of unfolding
the operation. -/

namespace Sys2Proof.Machine

/-! ## Flags -/

theorem flag_index_lt (f : Flag) : f.index < 12 := by cases f <;> decide

theorem flag_index_injective {f g : Flag} (h : f.index = g.index) : f = g := by
  cases f <;> cases g <;> first | rfl | exact absurd h (by decide)

/-- The set of one flag holds that flag alone. -/
theorem has_only (f g : Flag) : FlagSet.has (FlagSet.only f) g = decide (g = f) := by
  cases f <;> cases g <;> decide

/-- A set with a flag added holds that flag and what it held. -/
theorem has_insert (fs : FlagSet) (f g : Flag) :
    FlagSet.has (FlagSet.insert fs f) g = (FlagSet.has fs g || decide (g = f)) := by
  rw [← has_only]
  simp [FlagSet.has, FlagSet.insert]

/-- A set with a flag taken out holds what it held but for that flag. -/
theorem has_remove (fs : FlagSet) (f g : Flag) :
    FlagSet.has (FlagSet.remove fs f) g = (FlagSet.has fs g && !decide (g = f)) := by
  rw [← has_only]
  simp [FlagSet.has, FlagSet.remove, flag_index_lt]

/-- A set with some flags taken out. -/
theorem has_removeAll (fs : FlagSet) (l : List Flag) (g : Flag) :
    FlagSet.has (FlagSet.removeAll fs l) g = (FlagSet.has fs g && !decide (g ∈ l)) := by
  induction l generalizing fs with
  | nil => simp [FlagSet.removeAll]
  | cons f rest ih =>
    have : FlagSet.removeAll fs (f :: rest) = FlagSet.removeAll (FlagSet.remove fs f) rest := rfl
    rw [this, ih, has_remove]
    simp [Bool.and_assoc]

/-- What a latch leaves in the fault unit before its reports. -/
theorem raiseFlag_latched (s : State) (f g : Flag) :
    (s.raiseFlag f).latched g = (s.latched g || decide (g = f)) := by
  simp [State.raiseFlag, State.latched, has_insert]

/-- A latch request of a flag already latched changes nothing (R155). -/
theorem latch_again {s : State} {f : Flag} (h : s.latched f = true) : s.latch f = s := by
  simp [State.latch, h]

/-- A latch request of a flag not latched: the latch with its reports (R156). -/
theorem latch_new {s : State} {f : Flag} (h : s.latched f = false) :
    s.latch f = ((s.raiseFlag f).monitorLatch f).sessionLatch f := by
  simp [State.latch, h]

/-! ## Share engine -/

/-- A recomputation lowers the claim and converts, or changes nothing (R81). -/
theorem recompute_cases (s : State) :
    (s.she.claim ≤ s.computedClaim s.pvt.view ∧ s.recompute = s) ∨
    (s.computedClaim s.pvt.view < s.she.claim ∧
      s.recompute = (s.setClaim (s.computedClaim s.pvt.view)).convert) := by
  unfold State.recompute
  split
  · exact .inr ⟨‹_›, rfl⟩
  · exact .inl ⟨by omega, rfl⟩

/-- The claim after a recomputation: the lesser of the old one and the computed one (R81). -/
theorem recompute_claim (s : State) : s.recompute.she.claim = min s.she.claim (s.computedClaim s.pvt.view) := by
  rcases recompute_cases s with ⟨h, e⟩ | ⟨h, e⟩ <;> rw [e]
  · omega
  · simp [State.convert]; omega

/-- Under a zeroing condition the computed claim is 0 (R79). -/
theorem computedClaim_barred {s : State} (h : s.claimBarred = true) (view : List Entry) :
    s.computedClaim view = 0 := by
  simp [State.computedClaim, h]

/-- The computed claim is within the demand, Cmax and the pool (R79). -/
theorem computedClaim_le (s : State) (view : List Entry) :
    s.computedClaim view ≤ s.she.demand ∧ s.computedClaim view ≤ s.mdu.cfg.cmax ∧
    s.computedClaim view ≤ s.ownLimit - s.mdu.cfg.margin := by
  unfold State.computedClaim
  split
  · simp
  · simp only [pool]; omega

/-- A candidate claim rises by the ramp at most (R77, R78). -/
theorem candidate_le (c ramp p : Nat) (own : Bool) (set : List Mate) : candidate c ramp own p set ≤ c + ramp := by
  unfold candidate rampCandidate shedCandidate
  split
  · split <;> omega
  · omega

/-- What the setpoint conversion writes (R85, R88). -/
theorem convert_spec (s : State) :
    s.convert.she = { s.she with
      pInAvail := s.pIn, pDcAvail := s.pDc, dutyApplied := s.dutyNow, phApplied := s.phNow,
      idcSet := s.idcNow, chgEn := decide (0 < s.idcNow), iRef := s.idcNow } := by
  simp [State.convert]

/-! ## Session unit -/

/-- The opening test opens a PENDING session when all its conditions hold, and changes nothing otherwise
(R138). -/
theorem openingTest_cases (s : State) :
    (∃ id left, s.slu.session = .pending id left ∧ s.mayOpen = true ∧ s.openingTest = s.openSession id) ∨
    s.openingTest = s := by
  unfold State.openingTest
  split
  · split
    · exact .inl ⟨_, _, ‹_›, ‹_›, rfl⟩
    · exact .inr rfl
  · exact .inr rfl

/-- A return to IDLE acts on a PENDING session alone (R139). -/
theorem returnToIdle_cases (s : State) :
    (s.slu.session.isPending = true ∧
      s.returnToIdle = ({ s with slu.session := .idle }.monitorIdle).recompute.applyDuty) ∨
    (s.slu.session.isPending = false ∧ s.returnToIdle = s) := by
  unfold State.returnToIdle
  cases h : s.slu.session <;> simp [Session.isPending]

/-- An offered session makes an IDLE session PENDING, or nothing changes (R137, R147). -/
theorem offerSession_cases (s : State) (plugged : Bool) (id : Nat) :
    (s.slu.session.isIdle = true ∧ (s.mdu.mode = .listening ∨ s.mdu.mode = .run) ∧ plugged = true ∧ id ≠ 0 ∧
      id ≠ s.pvt.halted ∧ s.offerSession plugged id = s.enterPending id) ∨
    s.offerSession plugged id = s := by
  unfold State.offerSession
  split
  · next h => exact .inl ⟨h.1, h.2.1, h.2.2.1, h.2.2.2.1, h.2.2.2.2, rfl⟩
  · exact .inr rfl

/-- An end acts on an OPEN session alone (R143). -/
theorem endSession_cases (s : State) (reason : EndReason) :
    (∃ r left, s.slu.session = .opened r left ∧
      s.endSession reason =
        ({ s with slu.session := .ended r reason s.clock.stamp
          }.meterDeparts).applyDuty.shareLeavesOpen.moveToBuffer) ∨
    (s.slu.session.isOpen = false ∧ s.endSession reason = s) := by
  unfold State.endSession
  cases h : s.slu.session with
  | opened r left => exact .inl ⟨r, left, rfl, rfl⟩
  | _ => exact .inr ⟨rfl, rfl⟩

/-- A session in ENDED moves into a free buffer, or is discarded when no sequence is left, or waits (R146). -/
theorem moveToBuffer_cases (s : State) :
    (∃ r reason closed, s.slu.session = .ended r reason closed ∧ s.slu.buffer = none ∧
      ((lastSequence ≤ newestSeq s.slu.table ∧ s.moveToBuffer = s.latchLog.idleAfterEnd) ∨
        (newestSeq s.slu.table < lastSequence ∧
          s.moveToBuffer =
            (s.startWrite (s.completeRecord r reason closed s.nextSequence) none).idleAfterEnd))) ∨
    s.moveToBuffer = s := by
  unfold State.moveToBuffer
  split
  · next r reason closed hs hb =>
    refine .inl ⟨r, reason, closed, hs, hb, ?_⟩
    split
    · exact .inl ⟨‹_›, rfl⟩
    · exact .inr ⟨by omega, rfl⟩
  · exact .inr rfl

/-! ## Insulation monitor -/

/-- The sequencer made OFF (R96): its state, its switch, its flag and its clock. -/
theorem sequencerOff_spec (s : State) :
    s.sequencerOff.imon.seq = .off ∧ s.sequencerOff.imon.injecting = false ∧
    s.sequencerOff.imon.isoSw = .opened ∧ s.sequencerOff.mfe.insClock = none := by
  unfold State.sequencerOff
  split <;> simp [Seq.flag, Seq.switch, Seq.samplingClock]

/-- The sequencer leaves OFF for WAITING, or nothing changes (R96). -/
theorem leaveOff_cases (s : State) :
    (s.imon.seq = .off ∧ s.sequencerBarred = false ∧
      ∃ left, s.leaveOff = s.draw.setSeq (.waiting left)) ∨
    s.leaveOff = s := by
  unfold State.leaveOff
  split
  · next h =>
    refine .inl ⟨h.1, by simpa using h.2, ?_⟩
    split
    · exact ⟨_, rfl⟩
    · exact ⟨_, rfl⟩
  · exact .inr rfl

/-- A peer's claim to the bus makes an intent, a window or a measurement stand back, each into HOLDOFF, and
touches no other sequencer state (R102, R103, R107). -/
theorem standBack_cases (s : State) :
    (s.imon.seq = .pending ∧ s.standBack = s.withdrawIntent.enterHoldoff) ∨
    (∃ left, s.imon.seq = .window left ∧ s.standBack = s.enterHoldoff) ∨
    (∃ p k, s.imon.seq = .injecting p k ∧ s.standBack = s.abortMeasurement) ∨
    s.standBack = s := by
  unfold State.standBack
  cases h : s.imon.seq with
  | pending => exact .inl ⟨rfl, rfl⟩
  | window left => exact .inr (.inl ⟨left, rfl, rfl⟩)
  | injecting p k => exact .inr (.inr (.inl ⟨p, k, rfl, rfl⟩))
  | _ => exact .inr (.inr (.inr rfl))

/-! ## Mode unit, bus, dispatch -/

/-- The DORMANT entry test: an entry when its conditions begin to hold, and nothing otherwise (R173). -/
theorem dormantTest_cases (before s : State) :
    (s.dormantReady = true ∧ before.dormantReady = false ∧ State.dormantTest before s = s.enterDormant) ∨
    State.dormantTest before s = s := by
  unfold State.dormantTest
  split
  · next h => exact .inl ⟨h.1, by simpa using h.2, rfl⟩
  · exact .inr rfl

/-- Without an expired dormant timer the entry test changes nothing. -/
theorem dormantTest_of_timer {before s : State} (h : s.mdu.dormantTimer ≠ .expired) :
    State.dormantTest before s = s := by
  have : s.dormantReady = false := by simp [State.dormantReady, h]
  simp [State.dormantTest, this]

/-- A complete telegram that was taken up: discarded, of the own id, or settled and passed on (R33, R35, R36, R40). -/
theorem completeTelegram_cases (s : State) (k : Kind) (t : List Byte) (pass : Received → State → State) :
    (s.completeTelegram k t pass = s.telegramEnds ∧ ∀ rx, checkTelegram t = some rx → rx.kind ≠ k) ∨
    (∃ rx, checkTelegram t = some rx ∧ rx.kind = k ∧ rx.source = s.mdu.station ∧
      s.completeTelegram k t pass = s.telegramEnds.latch .dupId) ∨
    (∃ rx, checkTelegram t = some rx ∧ rx.kind = k ∧ rx.source ≠ s.mdu.station ∧
      s.completeTelegram k t pass = pass rx ((s.telegramEnds.settleEntry rx).heard k)) := by
  unfold State.completeTelegram
  cases hc : checkTelegram t with
  | none => exact .inl ⟨rfl, fun rx hx => by cases hx⟩
  | some rx =>
    by_cases hk : rx.kind = k
    · by_cases hs : rx.source = s.mdu.station
      · exact .inr (.inl ⟨rx, rfl, hk, hs, by simp [hk, hs]⟩)
      · exact .inr (.inr ⟨rx, rfl, hk, hs, by simp [hk, hs]⟩)
    · refine .inl ⟨by simp [hk], fun rx' hx => ?_⟩
      cases hx; exact hk

/-- A telegram at the receiver while the blocks run: taken up and completed, or no arrival (R32). -/
theorem receive_cases {s : State} (k : Kind) (t : List Byte) (pass : Received → State → State)
    (h : s.runs = true) :
    (s.takesUp = true ∧ s.receive k t pass = s.completeTelegram k t pass) ∨
    (s.takesUp = false ∧ s.receive k t pass = { s with pbi.quiet := 0 }) := by
  cases ht : s.takesUp
  · exact .inr ⟨rfl, by simp [State.receive, h, ht]⟩
  · exact .inl ⟨rfl, by simp [State.receive, h, ht]⟩

/-- TELEGRAM_DISCARDED: nothing during an own attempt or with the interface stopped, the end of the take-up alone as
the bus becomes idle, and otherwise the end of a telegram (R20, R32, R33). -/
theorem execTelegramDiscarded_cases (s : State) :
    ((s.runs = false ∨ s.pbi.attempt ≠ none) ∧ execTelegramDiscarded s = .next s) ∨
    (s.runs = true ∧ s.pbi.attempt = none ∧ s.idleNow = true ∧ execTelegramDiscarded s = .next s.takeUpEnds) ∨
    (s.runs = true ∧ s.pbi.attempt = none ∧ s.idleNow = false ∧ execTelegramDiscarded s = .next s.telegramEnds) := by
  unfold execTelegramDiscarded State.discard
  cases s.runs <;> cases s.pbi.attempt <;> cases s.idleNow <;> simp

/-- Without running blocks no telegram is received. -/
theorem receive_stopped {s : State} (k : Kind) (t : List Byte) (pass : Received → State → State)
    (h : s.runs = false) : s.receive k t pass = s := by
  simp [State.receive, h]

/-! ## Timers and time -/

/-- A timer has run when it runs with less than its whole length left. -/
theorem hasRun_iff (whole : Nat) (t : Option Nat) : hasRun whole t = true ↔ ∃ left, t = some left ∧ left < whole := by
  cases t <;> simp [hasRun]

/-- A step with no command waiting: what is due now is queued, or a microsecond passes. -/
theorem idleStep_cases (s : State) :
    (s.dueNow = [] ∧ s.idleStep = s.idleTick) ∨
    (s.dueNow ≠ [] ∧ s.idleStep =
      { s with freeIndex := s.freeIndex + s.dueNow.length, pending := freeOrder s.freeIndex s.dueNow }) := by
  unfold State.idleStep
  split
  · next h => exact .inl ⟨h, rfl⟩
  · next due h => exact .inr ⟨h, rfl⟩

end Sys2Proof.Machine
end

