-- ==== Sys2Proof/Laws/PerInstr.lean ====
section
/-! SUPPORT. One fact of every command as syntax: the data that a well-formed command carries is bounded as the
layouts of chapter 11 and the converters bound it. -/

namespace Sys2Proof.Laws.Shape

open Sys2Proof

/-- The bytes a command carries: an image, or a telegram. -/
def carried : Instr → List Byte
  | .powerOnReset _ _ => []
  | .rstn _ _ => []
  | .imageReadComplete image => image
  | .imageReadTimeout => []
  | .markerReadComplete => []
  | .markerReadTimeout => []
  | .meteringSample _ _ _ => []
  | .lossCountReached => []
  | .rmsWindowComplete => []
  | .scanStart => []
  | .scanComplete _ _ _ _ _ _ _ _ => []
  | .insulationSample _ => []
  | .busIdle => []
  | .attemptStart => []
  | .collision => []
  | .attemptSuccess => []
  | .holdoffRunsOut => []
  | .telegramDiscarded => []
  | .beaconArrival t => t
  | .contractArrival t => t
  | .haltArrival t => t
  | .injectIntentArrival t => t
  | .isoResultArrival t => t
  | .logReadArrival t => t
  | .logRecordArrival t => t
  | .flagClearArrival t => t
  | .ownBeaconPeriod _ => []
  | .contractLoss => []
  | .oneSecondAdvance => []
  | .stepBoundary => []
  | .overdrawTimerExpiry => []
  | .intervalTimerExpiry => []
  | .windowTimerExpiry => []
  | .holdoffTimerExpiry => []
  | .peerIntentTimerExpiry => []
  | .pendingTimerExpiry => []
  | .lineLossTimerExpiry => []
  | .storeWriteCompletion _ => []
  | .dormantTimerExpiry => []
  | .telegramStartEvent => []
  | .plugAssertion => []
  | .plugRelease => []
  | .wakeSettlingEnd => []
  | .pwrFailAssertion => []
  | .pwrFailRelease => []
  | .busActivity => []

/-- The greatest magnitude of a converter input a command carries. -/
def inputSize : Instr → Nat
  | .powerOnReset _ _ => 0
  | .rstn _ _ => 0
  | .imageReadComplete _ => 0
  | .imageReadTimeout => 0
  | .markerReadComplete => 0
  | .markerReadTimeout => 0
  | .meteringSample v i _ => max v.natAbs i.natAbs
  | .lossCountReached => 0
  | .rmsWindowComplete => 0
  | .scanStart => 0
  | .scanComplete _ _ _ _ _ _ _ _ => 0
  | .insulationSample x => x.natAbs
  | .busIdle => 0
  | .attemptStart => 0
  | .collision => 0
  | .attemptSuccess => 0
  | .holdoffRunsOut => 0
  | .telegramDiscarded => 0
  | .beaconArrival _ => 0
  | .contractArrival _ => 0
  | .haltArrival _ => 0
  | .injectIntentArrival _ => 0
  | .isoResultArrival _ => 0
  | .logReadArrival _ => 0
  | .logRecordArrival _ => 0
  | .flagClearArrival _ => 0
  | .ownBeaconPeriod _ => 0
  | .contractLoss => 0
  | .oneSecondAdvance => 0
  | .stepBoundary => 0
  | .overdrawTimerExpiry => 0
  | .intervalTimerExpiry => 0
  | .windowTimerExpiry => 0
  | .holdoffTimerExpiry => 0
  | .peerIntentTimerExpiry => 0
  | .pendingTimerExpiry => 0
  | .lineLossTimerExpiry => 0
  | .storeWriteCompletion _ => 0
  | .dormantTimerExpiry => 0
  | .telegramStartEvent => 0
  | .plugAssertion => 0
  | .plugRelease => 0
  | .wakeSettlingEnd => 0
  | .pwrFailAssertion => 0
  | .pwrFailRelease => 0
  | .busActivity => 0

/-- A well-formed command carries no bytes, a telegram of 6 to 61 bytes, or an image of 128, and no input beyond
the converter of 16 bits. -/
def Statement (i : Instr) : Prop :=
  i.wellFormed = true →
    (carried i = [] ∨ (6 ≤ (carried i).length ∧ (carried i).length ≤ 61) ∨ (carried i).length = 128) ∧
    inputSize i ≤ 32768

/-- A payload length that a kind permits is 1 to 56 (R177). -/
theorem permits_bounds {k : Machine.Kind} {n : Nat} (h : k.permits n = true) : 1 ≤ n ∧ n ≤ 56 := by
  cases k <;> simp [Machine.Kind.permits] at h <;> omega

/-- A telegram that passes the checks is 6 to 61 bytes long (R177). -/
theorem passesAs_length {k : Machine.Kind} {t : List Byte} (h : passesAs k t = true) :
    6 ≤ t.length ∧ t.length ≤ 61 := by
  unfold passesAs at h
  split at h
  · next rx hc =>
    unfold Machine.checkTelegram at hc
    split at hc
    · split at hc
      · next hd =>
        split at hc
        · split at hc
          · next hp => have := permits_bounds hp; simp only [List.length_cons, hd.2.2.1]; omega
          · cases hc
        · cases hc
      · cases hc
    · cases hc
  · cases h

/-- A telegram arrival's statement. -/
theorem of_passesAs {i : Instr} {k : Machine.Kind} (hw : i.wellFormed = passesAs k (carried i))
    (hi : inputSize i = 0) : Statement i :=
  fun h => ⟨.inr (.inl (passesAs_length (hw ▸ h))), by omega⟩

/-- The statement of a command that carries neither bytes nor an input. -/
theorem of_plain {i : Instr} (hc : carried i = []) (hi : inputSize i = 0) : Statement i :=
  fun _ => ⟨.inl hc, by omega⟩

/-! ## Every command -/

theorem powerOnReset (a : BitVec 4) (b : BitVec 2) : Statement (.powerOnReset a b) := of_plain rfl rfl
theorem rstn (a : BitVec 4) (b : BitVec 2) : Statement (.rstn a b) := of_plain rfl rfl
theorem imageReadComplete (image : List Byte) : Statement (.imageReadComplete image) :=
  fun h => ⟨.inr (.inr (by simpa [Instr.wellFormed, carried] using h)), by simp [inputSize]⟩
theorem imageReadTimeout : Statement .imageReadTimeout := of_plain rfl rfl
theorem markerReadComplete : Statement .markerReadComplete := of_plain rfl rfl
theorem markerReadTimeout : Statement .markerReadTimeout := of_plain rfl rfl
theorem meteringSample (v i : Int) (meterFirst : Bool) : Statement (.meteringSample v i meterFirst) := by
  intro h
  simp only [Instr.wellFormed, meteringInRange, Bool.and_eq_true, decide_eq_true_eq] at h
  exact ⟨.inl rfl, by simp only [inputSize]; omega⟩
theorem lossCountReached : Statement .lossCountReached := of_plain rfl rfl
theorem rmsWindowComplete : Statement .rmsWindowComplete := of_plain rfl rfl
theorem scanStart : Statement .scanStart := of_plain rfl rfl
theorem scanComplete (u a b c d e r : BitVec 12) (m : Bool) : Statement (.scanComplete u a b c d e r m) :=
  of_plain rfl rfl
theorem insulationSample (code : Int) : Statement (.insulationSample code) := by
  intro h
  simp only [Instr.wellFormed, insulationInRange, Bool.and_eq_true, decide_eq_true_eq] at h
  exact ⟨.inl rfl, by simp only [inputSize]; omega⟩
theorem busIdle : Statement .busIdle := of_plain rfl rfl
theorem attemptStart : Statement .attemptStart := of_plain rfl rfl
theorem collision : Statement .collision := of_plain rfl rfl
theorem attemptSuccess : Statement .attemptSuccess := of_plain rfl rfl
theorem holdoffRunsOut : Statement .holdoffRunsOut := of_plain rfl rfl
theorem telegramDiscarded : Statement .telegramDiscarded := of_plain rfl rfl
theorem beaconArrival (t : List Byte) : Statement (.beaconArrival t) := of_passesAs (k := .beacon) rfl rfl
theorem contractArrival (t : List Byte) : Statement (.contractArrival t) := of_passesAs (k := .contract) rfl rfl
theorem haltArrival (t : List Byte) : Statement (.haltArrival t) := of_passesAs (k := .halt) rfl rfl
theorem injectIntentArrival (t : List Byte) : Statement (.injectIntentArrival t) := of_passesAs (k := .injectIntent) rfl rfl
theorem isoResultArrival (t : List Byte) : Statement (.isoResultArrival t) := of_passesAs (k := .isoResult) rfl rfl
theorem logReadArrival (t : List Byte) : Statement (.logReadArrival t) := of_passesAs (k := .logRead) rfl rfl
theorem logRecordArrival (t : List Byte) : Statement (.logRecordArrival t) := of_passesAs (k := .logRecord) rfl rfl
theorem flagClearArrival (t : List Byte) : Statement (.flagClearArrival t) := of_passesAs (k := .flagClear) rfl rfl
theorem ownBeaconPeriod (b : Bool) : Statement (.ownBeaconPeriod b) := of_plain rfl rfl
theorem contractLoss : Statement .contractLoss := of_plain rfl rfl
theorem oneSecondAdvance : Statement .oneSecondAdvance := of_plain rfl rfl
theorem stepBoundary : Statement .stepBoundary := of_plain rfl rfl
theorem overdrawTimerExpiry : Statement .overdrawTimerExpiry := of_plain rfl rfl
theorem intervalTimerExpiry : Statement .intervalTimerExpiry := of_plain rfl rfl
theorem windowTimerExpiry : Statement .windowTimerExpiry := of_plain rfl rfl
theorem holdoffTimerExpiry : Statement .holdoffTimerExpiry := of_plain rfl rfl
theorem peerIntentTimerExpiry : Statement .peerIntentTimerExpiry := of_plain rfl rfl
theorem pendingTimerExpiry : Statement .pendingTimerExpiry := of_plain rfl rfl
theorem lineLossTimerExpiry : Statement .lineLossTimerExpiry := of_plain rfl rfl
theorem storeWriteCompletion (b : Bool) : Statement (.storeWriteCompletion b) := of_plain rfl rfl
theorem dormantTimerExpiry : Statement .dormantTimerExpiry := of_plain rfl rfl
theorem telegramStartEvent : Statement .telegramStartEvent := of_plain rfl rfl
theorem plugAssertion : Statement .plugAssertion := of_plain rfl rfl
theorem plugRelease : Statement .plugRelease := of_plain rfl rfl
theorem wakeSettlingEnd : Statement .wakeSettlingEnd := of_plain rfl rfl
theorem pwrFailAssertion : Statement .pwrFailAssertion := of_plain rfl rfl
theorem pwrFailRelease : Statement .pwrFailRelease := of_plain rfl rfl
theorem busActivity : Statement .busActivity := of_plain rfl rfl

end Sys2Proof.Laws.Shape
end

