-- ==== Sys2Proof/Tests/Slice0.lean ====
section
/-! SUPPORT. The model's own tests: the refusals of `Instr.wellFormed`, the spec's worked examples, telegrams
and images written out byte by byte from chapter 11, and for every obligation with hypotheses a state that meets
them. -/

namespace Sys2Proof.Tests

-- One theorem at a time: a thread each would pass the memory limit of the check.
set_option Elab.async false

open Sys2Proof Sys2Proof.Machine

/-! ## Helpers -/

/-- What a command leaves, read by `f`. -/
def after {α : Type} (c : Instr) (s : State) (f : State → α) : Option α :=
  match exec c s with
  | .next t => some (f t)
  | .fault _ => none
  | .refused _ => none

/-- The image of the examples: the curve of 4.10.1, gain 32768, crop 25, its checksum byte 0xAA. -/
def image : List Byte :=
  [0x01, 0x01, 0x00, 0x3C, 0x03, 0x01, 0x2C, 0x00, 0xC8, 0x0A, 0x1E, 0x03, 0xAC, 0x10, 0x36, 0x50, 0x01, 0xE0,
   0x00, 0x00, 0x00, 0x64, 0x03, 0x52, 0x4E, 0x20, 0x01, 0x86, 0x0A, 0x00, 0x00, 0x19, 0x00, 0xC8, 0x00, 0x28,
   0x01, 0x00, 0x1E, 0x80, 0x00, 0x01, 0x00, 0x01, 0x07] ++
  [0xFE, 0xD4, 0x00, 0x00, 0xFF, 0x9C, 0x00, 0x14, 0x00, 0x00, 0x00, 0x3C, 0x00, 0x64, 0x00, 0x96, 0x01, 0xC2,
   0x00, 0x96, 0x01, 0xF4, 0x00, 0x3C, 0x02, 0x26, 0x00, 0x00] ++ List.replicate 54 0 ++ [0xAA]

/-- The curve of 4.10.1. -/
def curve : List (Int × Nat) :=
  [(-300, 0), (-100, 20), (0, 60), (100, 150), (450, 150), (500, 60), (550, 0)]

/-- The configuration of `image`. -/
def cfg : ImageConfig :=
  { beaconCode := 1, dormantTimeout := 60, wakeBus := true, wakePlug := true, cmax := 300, imaxDc := 200,
    margin := 10, ramp := 30, yield := 940, umax := 4150, band := 80, rh := 480, tOn := 0, tOff := 100,
    thMax := 850, uinj := 20000, rc := 390, rm := 10, phaseCode := 0, crop := 25, warnK := 200, faultK := 40,
    confirmCode := 1, interval := 30, gain := 32768, demandCode := 1, alertMask := 1, curve := curve }

/-- Station 3 in RUN, its random sequence as seeded, its interval running. -/
def run : State :=
  { State.reset with
    mdu := { State.reset.mdu with
      mode := .run, station := 3, cfg := cfg, image := .passed cfg, scan := .done, listening := 3,
      beaconTimer := some 128000, dormantTimer := .running 1000 },
    mfe.line := .good, mfe.urms := 2300, mfe.scanTimer := some 10000, mfe.record.ustr := some 3800,
    pbi.random := 12298, pbi.quiet := 80, thu.stepTimer := some 62500, imon.seq := .waiting 5,
    emt.qraw := 900000000000 }

/-- Session 7301. -/
def record : OpenRecord :=
  { id := 7301, station := 3, phase := 1, opened := { day := 812, second := 29240, valid := true },
    minIns := some 780, flags := 0 }

/-- Station 3 with session 7301 OPEN. -/
def charging : State :=
  { run with
    slu.session := .opened record none, emt.active := true,
    emt.interval := some { finish := 900, start := 0, basis := .opening } }

/-- The contract record of 3.8.2 with a limit of 320 on every phase. -/
def contract : Contract :=
  { status := .held, source := 14, seq := 40, plugged := true, session := 7301, lim1 := 320, lim2 := 320,
    lim3 := 320, windows := [] }

/-- The contract record and its inlet station's entry put into a state. -/
def underContract (s : State) : State :=
  { s with
    pvt.record := some contract, pvt.lossTimer := some 1000000,
    pvt.view := [{ id := 14, role := .inlet, age := 0, part := none }] }

/-! ## Telegrams of section 11.2, byte by byte -/

/-- Section 11.2.1's example: station 5's beacon. -/
def beacon5 : List Byte :=
  [0x7E, 0x51, 0x14, 0x01, 0x03, 0x02, 0x00, 0x00, 0x1C, 0x85, 0x00, 0x28, 0x01, 0x01, 0x00, 0x00, 0x00, 0x00,
   0x00, 0x39, 0xFF, 0xDB, 0x05, 0xAC, 0xB0]

/-- Section 11.2.2's example: the contract of 3.8.2. -/
def contract14 : List Byte :=
  [0x7E, 0xE2, 0x1C, 0x28, 0x01, 0x00, 0x00, 0x1C, 0x85, 0x02, 0xBC, 0x01, 0x40, 0x00, 0x00, 0x03, 0x2C, 0x00,
   0x00, 0x54, 0x60, 0x03, 0x00, 0x00, 0x01, 0x01, 0x68, 0x00, 0x01, 0x68, 0x02, 0xDD, 0x66]

/-- Section 11.2.3's example: reason 3. -/
def halt14 : List Byte := [0x7E, 0xE3, 0x01, 0x03, 0x36, 0xAF]
/-- Section 11.2.4's example: the first intent, from station 7. -/
def intent7 : List Byte := [0x7E, 0x74, 0x01, 0x01, 0xEB, 0x44]
/-- Section 11.2.5's example: sequence 1, VALID, 100 kΩ, 3800 dV, from station 5. -/
def result5 : List Byte := [0x7E, 0x55, 0x06, 0x01, 0x00, 0x00, 0x64, 0x0E, 0xD8, 0x78, 0xB0]
/-- Section 11.2.6's example: target 4, form 0, sequence 10, from station 9. -/
def logRead9 : List Byte := [0x7E, 0x96, 0x06, 0x04, 0x00, 0x00, 0x00, 0x00, 0x0A, 0x77, 0x0E]
/-- A NOT_HELD reply of station 4 with an empty log. -/
def logRecord4 : List Byte := [0x7E, 0x47, 0x09, 0x01, 0, 0, 0, 0, 0, 0, 0, 0, 0x77, 0x4A]
/-- Section 11.2.8's example: target ALL, ISO_WARN and LINE, from station 9. -/
def flagClear9 : List Byte := [0x7E, 0x98, 0x03, 0xFF, 0x00, 0x21, 0x55, 0x57]

theorem test_crc_check_value : crc16 [0x31, 0x32, 0x33, 0x34, 0x35, 0x36, 0x37, 0x38, 0x39] = 0x29B1#16 := by
  decide +kernel

theorem test_beacon_telegram :
    checkTelegram beacon5 = some { source := 5, kind := .beacon, payload := (beacon5.drop 3).take 20 } ∧
    beaconPart ((beacon5.drop 3).take 20) =
      { phase := some 1, claim := 40, wanting := true, injecting := false } ∧ wireTime beacon5 = 500 := by
  decide +kernel

theorem test_contract_telegram :
    checkTelegram contract14 = some { source := 14, kind := .contract, payload := (contract14.drop 3).take 28 } ∧
    contractOf 14 ((contract14.drop 3).take 28) =
      { status := .held, source := 14, seq := 40, plugged := true, session := 7301, lim1 := 630, lim2 := 320,
        lim3 := 0, windows := [] } ∧
    contractDay ((contract14.drop 3).take 28) = 812 ∧ contractSecond ((contract14.drop 3).take 28) = 21600 ∧
    wireTime contract14 = 660 := by
  decide +kernel

theorem test_other_telegrams :
    checkTelegram halt14 = some { source := 14, kind := .halt, payload := [3] } ∧
    checkTelegram intent7 = some { source := 7, kind := .injectIntent, payload := [1] } ∧ wireTime intent7 = 120 ∧
    checkTelegram result5 = some { source := 5, kind := .isoResult, payload := [1, 0, 0, 100, 0x0E, 0xD8] } ∧
    checkTelegram logRead9 = some { source := 9, kind := .logRead, payload := [4, 0, 0, 0, 0, 10] } ∧
    checkTelegram logRecord4 = some { source := 4, kind := .logRecord, payload := [1, 0, 0, 0, 0, 0, 0, 0, 0] } ∧
    checkTelegram flagClear9 = some { source := 9, kind := .flagClear, payload := [255, 0, 0x21] } := by
  decide +kernel

/-- R33's reasons one by one: the CRC, an unknown kind, a length the kind does not permit, a length above 56. -/
theorem test_telegrams_discarded :
    checkTelegram (halt14.set 3 4) = none ∧ checkTelegram (frame 14 .halt [3, 4]) = none ∧
    checkTelegram (delimiter :: ([0xE9, 1, 3] ++ be16 (crc16 [0xE9, 1, 3]).toNat)) = none ∧
    checkTelegram (frame 4 .logRecord (List.replicate 57 0)) = none := by
  decide +kernel

theorem test_image_read : imageCheck image 1 = some cfg := by decide +kernel
theorem test_image_phase_strap_zero : imageCheck image 0 = none := by decide +kernel
theorem test_image_checksum : imageCheck (image.set 127 0xAB) 1 = none := by decide +kernel

/-! ## WellFormed: each check refuses an ill-formed command -/

theorem test_illformed_image : (Instr.imageReadComplete []).wellFormed = false := by decide +kernel
theorem test_illformed_metering :
    (Instr.meteringSample 32768 0 true).wellFormed = false ∧
    (Instr.meteringSample 0 (-32769) true).wellFormed = false := by decide +kernel
theorem test_illformed_insulation :
    (Instr.insulationSample 2048).wellFormed = false ∧ (Instr.insulationSample (-2048)).wellFormed = false := by
  decide +kernel
theorem test_illformed_arrivals :
    (Instr.beaconArrival halt14).wellFormed = false ∧ (Instr.contractArrival beacon5).wellFormed = false ∧
    (Instr.haltArrival []).wellFormed = false ∧ (Instr.injectIntentArrival (intent7.set 5 0)).wellFormed = false ∧
    (Instr.isoResultArrival logRead9).wellFormed = false ∧ (Instr.logReadArrival result5).wellFormed = false ∧
    (Instr.logRecordArrival flagClear9).wellFormed = false ∧
    (Instr.flagClearArrival logRecord4).wellFormed = false := by
  decide +kernel
theorem test_wellformed_arrivals :
    (Instr.beaconArrival beacon5).wellFormed = true ∧ (Instr.contractArrival contract14).wellFormed = true ∧
    (Instr.haltArrival halt14).wellFormed = true ∧ (Instr.injectIntentArrival intent7).wellFormed = true ∧
    (Instr.isoResultArrival result5).wellFormed = true ∧ (Instr.logReadArrival logRead9).wellFormed = true ∧
    (Instr.logRecordArrival logRecord4).wellFormed = true ∧
    (Instr.flagClearArrival flagClear9).wellFormed = true ∧ (Instr.imageReadComplete image).wellFormed = true := by
  decide +kernel

/-! ## Worked examples -/

/-- 1.9.1: the crossing between −3000 and 1200 lies at 1,000,178 µs; the one at 1,003,020 µs comes too soon. -/
theorem test_crossing_times :
    FrontEnd.crossing { FrontEnd.start with vPrev := some (-3000), count := 4000 } 1200 = some 1000178 ∧
    FrontEnd.accepts { FrontEnd.start with tAcc := some 980190 } 1000178 = true ∧
    FrontEnd.accepts { FrontEnd.start with tAcc := some 1000178 } 1003020 = false := by decide +kernel

/-- 1.9.2: 80 samples give 2300 dV and 160 dA. -/
theorem test_rms : urmsOf 16531250000 80 = 2300 ∧ irmsOf 20480000000 80 = 160 := by decide +kernel

/-- 1.9.3: the eighth good cycle makes GOOD, the third bad Urms FAULT, a good period SETTLING. -/
theorem test_line_states :
    (FrontEnd.judge true true { FrontEnd.start with line := .settling, settle := 7 }).line = .good ∧
    (FrontEnd.judge true false { FrontEnd.start with line := .good, badUrms := 2 }).line = .fault ∧
    (FrontEnd.judge true false { FrontEnd.start with line := .fault }).line = .settling ∧
    (FrontEnd.judge false true { FrontEnd.start with line := .fault }).line = .fault := by decide +kernel

/-- 1.9.4: the conversions and the filter. -/
theorem test_temperature_filter :
    tempOf 410 = some (-300) ∧ tempOf 412 = some (-299) ∧ tempOf 405 = some (-303) ∧ tempOf 8 = none ∧
    filtered none (some (-300)) = some (-300) ∧ filtered (some (-300, -300)) (some (-299)) = some (-300) ∧
    filtered (some (-303, -303)) (some (-300)) = some (-303) ∧ ustrOf 3040 = 3800 := by decide +kernel

/-- 1.9.5: the second code out of tolerance in a row latches FRONTEND. -/
theorem test_reference_drift :
    after (.scanComplete 3040 1500 1500 1500 1500 1500 2100 true) { run with mfe.refCount := 1 }
      (fun t => (t.mfe.refCount, t.latched .frontEnd)) = some (2, true) ∧
    after (.scanComplete 3040 1500 1500 1500 1500 1500 2095 true) run
      (fun t => (t.mfe.refCount, t.latched .frontEnd)) = some (1, false) := by decide +kernel

/-- 2.6.1: the random sequence of station 3. -/
theorem test_random_sequence :
    seedOf 3 = 12298 ∧ nextRandom 12298 = 64875 ∧ nextRandom 64875 = 20640 ∧ nextRandom 20640 = 15161 ∧
    64875 / 4096 * holdoffUnit = 960 ∧ nextRandom (seedOf 5) = 60265 := by decide +kernel

/-- 4.10.1: the derating curve. -/
theorem test_curve :
    [-400, -296, -150, -90, -37, 40, 52, 300, 513, 520, 600].map (curveAt curve) =
      [0, 0, 15, 24, 45, 96, 106, 150, 44, 36, 0] := by decide +kernel

/-- 4.10.2 and 4.10.3: the taper, the full power, the duty request. -/
theorem test_thermal_arithmetic :
    [3800, 4070, 4071, 4100, 4149, 4150].map (taperOf 4150 80 200) = [200, 200, 197, 125, 2, 0] ∧
    fullPower 3800 480 = 3008 ∧ [-300, 0, 1, 40, 94].map (fun t => dutyOf t 0 100) = [16, 16, 16, 10, 1] := by
  decide +kernel

/-- 5.10.1: the demand of a warm module, and of one still warming. -/
theorem test_demand : demandOf 150 3800 0 940 2300 = 264 ∧ demandOf 20 3800 3008 940 2300 = 175 := by decide +kernel

/-- 5.10.2, period 1: the candidates of self, B and A; 5.10.4: the shed of self and A. -/
theorem test_claims :
    candidate 40 30 true 310 [⟨true, 150, false⟩, ⟨true, 100, true⟩] = 50 ∧
    candidate 100 30 true 310 [⟨true, 150, false⟩, ⟨true, 40, true⟩] = 110 ∧
    candidate 150 30 false 310 [⟨true, 100, true⟩, ⟨true, 40, true⟩] = 120 ∧
    candidate 102 30 true 190 [⟨true, 103, true⟩, ⟨true, 103, true⟩] = 63 ∧
    candidate 103 30 true 190 [⟨true, 103, true⟩, ⟨true, 102, true⟩] = 63 := by decide +kernel

/-- 6.7.1: the four results. -/
theorem test_resistance :
    resistance 10 20000 390 100 160000 = (.valid, 100) ∧ resistance 10 20000 390 100 220000 = (.valid, 0) ∧
    resistance 10 20000 390 100 7000 = (.aboveRange, 10000) ∧
    resistance 10 20000 390 100 (-120) = (.noResponse, 0) := by decide +kernel

/-- 7.9.1: the quanta, and samples 3914 and 7827. -/
theorem test_quantum :
    quantumOf 32768 = 900000000000 ∧ quantumOf 32000 = 921600000000 ∧
    (Meter.addProduct 230000000 1 { Meter.start 900000000000 with acc := 899990000000 }).acc = 220000000 ∧
    (Meter.addProduct 230000000 1 { Meter.start 900000000000 with acc := 899990000000 }).imp1 = 1 := by decide +kernel

/-- 7.9.5 and 7.9.6: an interval across midnight, and one without valid time. -/
theorem test_intervals :
    (alignedInterval 900 85500).finish = 0 ∧ (alignedInterval 900 85500).start = 1425 ∧
    Interval.ended ⟨0, 1425, .day⟩ 900 86399 = false ∧ Interval.ended ⟨0, 1425, .day⟩ 900 0 = true ∧
    (Interval.next ⟨0, 1425, .day⟩ 15 0).start = 0 ∧ (Interval.next ⟨0, 1425, .day⟩ 15 0).finish = 900 ∧
    (unalignedInterval 300 5000).finish = 5300 ∧ (Interval.next ⟨5300, 0, .opening⟩ 5 1).start = 5 := by decide +kernel

/-- 7.9.7: scan 383 counts the first heating watt-hour. -/
theorem test_heating :
    (Meter.addHeat 940 { Meter.start 0 with heatAcc := 359080 }).heatAcc = 20 ∧
    (Meter.addHeat 940 { Meter.start 0 with heatAcc := 359080 }).heatCount = 1 := by decide +kernel

/-- 8.9.2: the oldest record's slot, then the next oldest with the failed slot left out. -/
theorem test_write_targets :
    targetOf ([49, 50, 51, 52, 53, 54, 55, 56, 41, 42, 43, 44, 45, 46, 47, 48].map some) none = 8 ∧
    targetOf ((([49, 50, 51, 52, 53, 54, 55, 56, 41, 42, 43, 44, 45, 46, 47, 48].map some).set 8 none)) (some 8) =
      9 := by decide +kernel

/-! ## Witnesses: states and operands that meet an obligation's hypotheses together -/

/-- START with its scan done and the image being read. -/
def scanned : State := { State.reset with mdu.scan := .done }

/-- Nothing held; PWR_FAIL held and still active; held and released. -/
theorem witness_PassedImageEndsStart :
    scanned.mdu.mode = .start ∧ scanned.mdu.image = .reading 50000 ∧ scanned.mdu.scan = .done ∧
    scanned.slu.session.isOpen = false ∧ imageCheck image scanned.mdu.phase ≠ none ∧
    after (.imageReadComplete image) scanned (fun t => t.mdu.mode) = some .listening ∧
    after (.imageReadComplete image) { scanned with mdu.heldPwrFail := true, pins.pwrFail := true }
      (fun t => (t.mdu.mode, t.mdu.heldPwrFail)) = some (.powerHold, false) ∧
    after (.imageReadComplete image) { scanned with mdu.heldPwrFail := true }
      (fun t => (t.mdu.mode, t.mdu.heldPwrFail)) = some (.listening, false) := by decide +kernel

theorem witness_FailedImageEndsStart :
    { scanned with mdu.image := .reading 49999 }.mdu.mode = .start ∧
    { scanned with mdu.image := .reading 49999 }.mdu.image = .reading 49999 ∧ scanned.mdu.scan = .done ∧
    imageCheck [] scanned.mdu.phase = none ∧
    after (.imageReadComplete []) scanned (fun t => t.mdu.mode) = some .configHold ∧
    after .imageReadTimeout { scanned with mdu.image := .reading 49999 } (fun t => (t.mdu.mode, t.flu.alert)) =
      some (.configHold, true) := by
  decide +kernel

theorem witness_ImageCheckSound : imageCheck image 1 = some cfg := test_image_read

/-- The first slot, and slot 14, the last that another follows. -/
theorem witness_MarkerReads :
    State.reset.mdu.mode = .start ∧ State.reset.mdu.scan = .reading 0 1000 ∧ (0 : Fin 16).val < 15 ∧
    (14 : Fin 16).val < 15 ∧
    { State.reset with mdu.scan := .reading 14 999 }.mdu.scan = .reading 14 999 := by decide +kernel

/-- The last slot with the image being read, failed, and passed; with a held PWR_FAIL still active. -/
theorem witness_MarkerReads_last :
    ∀ i ∈ [ImageRead.reading 5, .failed, .passed cfg],
      { State.reset with mdu.scan := .reading 15 999, mdu.image := i }.mdu.mode = .start ∧
      { State.reset with mdu.scan := .reading 15 999, mdu.image := i }.mdu.scan = .reading 15 999 ∧
      State.reset.slu.session.isOpen = false ∧
      after .markerReadComplete
        { State.reset with
          mdu.scan := .reading 15 999, mdu.image := i, mdu.heldPwrFail := true, pins.pwrFail := true }
        (fun t => (t.mdu.scan, t.mdu.mode == .powerHold)) = some (.done, i == .passed cfg) := by
  decide +kernel

/-- A negative code on the last count, a positive one after a positive one, 1.9.1's crossing 2842 µs after the last,
and the first and the 400th sample of a window. -/
theorem witness_SampleWithoutCrossing :
    run.mdu.mode.runs = true ∧ run.mfe.line ≠ .absent ∧
    { run with mfe.loss := 398 }.mfe.loss + 1 < 400 ∧ run.emt.active = false ∧ (-32768 : Int) < 0 ∧
    (∀ w, { run with mfe.vPrev := some 0 }.mfe.vPrev = some w → 0 ≤ w) ∧
    250 * 4012 + ((250 * 20) / (230 - -20) : Int).toNat < 1000178 + 5000 ∧
    after (.meteringSample 230 0 true)
      { run with mfe.vPrev := some (-20), mfe.count := 4012, mfe.tAcc := some 1000178 }
      (fun t => (t.mfe.tAcc, t.mfe.loss, t.mfe.n)) = some (some 1000178, 1, 1) ∧
    after (.meteringSample (-100) 0 true) { run with mfe.line := .absent } (fun t => (t.mfe.n, t.mfe.loss)) =
      some (1, 0) ∧
    after (.meteringSample (-100) 0 true) { run with mfe.line := .absent, mfe.n := 399, mfe.sumV2 := 1562490000 }
      (fun t => (t.mfe.n, t.mfe.sumV2, t.mfe.urms)) = some (0, 0, 316) := by
  refine ⟨by decide +kernel, by decide +kernel, by decide +kernel, by decide +kernel, by decide, ?_,
    by decide +kernel, by decide +kernel, by decide +kernel, by decide +kernel⟩
  intro w h
  cases h
  decide

/-- 1.9.1, and a crossing exactly 5000 µs after the last accepted one; the first accepted crossing of a run. Irms 160
at and just above the overdraw limit, and with the overdraw condition holding. -/
theorem witness_CrossingClosesCycle :
    run.mdu.mode.runs = true ∧ (980190 + 5000 ≤ 250 * 4000 + ((250 * 3000) / (1200 - -3000) : Int).toNat) ∧
    (995178 + 5000 ≤ 250 * 4000 + ((250 * 3000) / (1200 - -3000) : Int).toNat) ∧
    after (.meteringSample 1200 0 true)
      { run with mfe.vPrev := some (-3000), mfe.count := 4000, mfe.tAcc := some 995178, mfe.n := 80,
                 mfe.sumV2 := 16531250000, mfe.sumI2 := 20480000000 }
      (fun t => (t.mfe.tAcc, t.mfe.urms, t.mfe.irms, t.mfe.n)) = some (some 1000178, 2300, 160, 1) ∧
    (∀ x ∈ [((141 : Nat), false, (none : Option Nat), false), (140, false, some 7, false), (141, true, none, false),
        (140, true, some 7, true)],
      after (.meteringSample 1200 0 true)
        { run with mfe.vPrev := some (-3000), mfe.count := 4000, mfe.tAcc := some 995178, mfe.n := 80,
                   mfe.sumV2 := 16531250000, mfe.sumI2 := 20480000000, she.drawn := x.1, she.overdraw := x.2.1,
                   she.overdrawTimer := some 7 }
        (fun t => (t.she.overdrawTimer, t.she.overdraw)) = some x.2.2) ∧
    run.emt.active = false ∧ run.mfe.tAcc = none ∧
    after (.meteringSample 1200 0 true)
      { run with mfe.line := .absent, mfe.vPrev := some (-3000), mfe.count := 4000, mfe.n := 7 }
      (fun t => (t.mfe.line, t.mfe.tAcc, t.mfe.n, t.mfe.urms)) = some (.settling, some 1000178, 1, 2300) := by
  decide +kernel

theorem witness_LineLost :
    run.mdu.mode.runs = true ∧ run.mfe.line ≠ .absent ∧ (-1 : Int) < 0 ∧
    { run with mfe.loss := 399 }.mfe.loss = 399 ∧ run.emt.active = false ∧
    after (.meteringSample (-1) 0 true) { run with mfe.loss := 399 } (fun t => t.mfe.line) = some .absent ∧
    after .lossCountReached charging (fun t => (t.mfe.line, t.slu.session)) =
      some (.absent, .opened record (some 30000000)) := by decide +kernel

theorem witness_RmsWindow :
    run.mdu.mode.runs = true ∧ { run with mfe.line := .absent, mfe.n := 1 }.mfe.line = .absent ∧
    0 < { run with mfe.line := .absent, mfe.n := 1 }.mfe.n := by decide +kernel

theorem witness_PeriodsBegin : run.mdu.mode.runs = true := by decide +kernel

/-- The hypotheses of the statements about a scan complete; 5.10.1's demand with the share engine's conversion after
it, and CONFIG_HOLD. -/
theorem witness_ScanPublishes_ThermalUpdate :
    run.mdu.mode.runs = true ∧ run.mdu.mode = .run ∧ run.mdu.dormantTimer ≠ .expired ∧
    { run with mdu.mode := .configHold }.mdu.mode.runs = true ∧
    after (.scanComplete 3040 300 300 300 300 1500 2048 true) charging
      (fun t => (t.mfe.record.ustr, t.thu.sensorFault, t.thu.heater, t.thu.dutyReq)) =
      some (some 3800, false, .on, 16) ∧
    after (.scanComplete 3040 300 300 300 300 0 2048 true) charging
      (fun t => (t.thu.heater, t.latched .heaterHot)) = some (.lockout, true) ∧
    after (.scanComplete 3040 1600 1600 1600 1600 1600 2048 true) { charging with she.drawn := 40 }
      (fun t => (t.thu.idcCap, t.she.demand, t.she.pInAvail, t.she.pDcAvail, t.she.idcSet)) =
      some (150, 264, 920, 864, 22) ∧
    after (.scanComplete 3040 300 300 300 300 0 2048 true) { run with mdu.mode := .configHold }
      (fun t => (t.thu.heater, t.thu.tmin, t.thu.idcCap, t.latched .heaterHot)) = some (.off, some (-354), 0, false) :=
  by decide +kernel

/-- A session ended by the latch of FRONTEND, and by the sensor condition. -/
theorem witness_ScanPublishes_ThermalUpdate_ends :
    charging.slu.session = .opened record none ∧ charging.thu.sensorFault = false ∧ charging.slu.buffer = none ∧
    charging.latched .frontEnd = false ∧
    after (.scanComplete 3040 300 300 300 300 1500 2006 true) { charging with mfe.refCount := 1 }
      (fun t => (t.latched .frontEnd, t.slu.buffer.map fun b => b.record.reason)) = some (true, some .frontEndFault) ∧
    after (.scanComplete 3040 0 0 0 300 1500 2048 true) charging
      (fun t => (t.latched .thermSensor, t.slu.buffer.map fun b => b.record.reason)) = some (true, some .thermalFault) :=
  by decide +kernel

/-- The curve ascends; a temperature below the first point, at a point, between points, at the last. -/
theorem witness_DeratingCurve :
    curve.Pairwise (fun p q => p.1 < q.1) ∧ (-301 : Int) < -300 ∧ (-100 : Int) ≤ -100 ∧ (-100 : Int) < 0 ∧
    (550 : Int) ≤ 550 ∧ [-301, -100, -1, 550].map (curveAt curve) = [0, 20, 59, 0] := by decide +kernel

/-- The last cropped sample of a phase, the first kept one, the last before the phase ends, and the last of the phase:
phase 3 begins with polarity −. -/
theorem witness_InsulationSampleTaken :
    (∀ k ∈ [(24, (2047 : Int)), (25, -2046), (123, 2046)],
      { run with imon.seq := .injecting .p2 k.1 }.imon.seq = .injecting .p2 k.1 ∧
      k.1 + 1 < 125 * 2 ^ run.mdu.cfg.phaseCode ∧
      (k.1 + 1 ≤ run.mdu.cfg.crop ∨ (-2047 < k.2 ∧ k.2 < 2047))) ∧
    124 + 1 = 125 * 2 ^ run.mdu.cfg.phaseCode ∧
    after (.insulationSample 7) { run with imon.seq := .injecting .p3 124, imon.isoSw := .minus }
      (fun t => (t.imon.seq, t.imon.isoSw, t.imon.sums)) = some (.injecting .p4 0, .plus, ⟨0, 0, 7, 0⟩) := by
  decide +kernel

theorem witness_SaturatedSampleAborts :
    { run with imon.seq := .injecting .p3 25 }.imon.seq = .injecting .p3 25 ∧ run.mdu.cfg.crop < 25 + 1 ∧
    (2047 : Int) ≤ 2047 ∧ run.mfe.record.ustr = some 3800 ∧
    after (.insulationSample 2047) { run with imon.seq := .injecting .p3 25, imon.intentSeq := 1 }
      (fun t => (t.imon.seq, t.pbi.result)) =
      some (.holdoff 4000000, some ⟨[1, 2, 0, 0, 0x0E, 0xD8], 0⟩) := by decide +kernel

/-- The first and the second NO_RESPONSE, with a D_sum of 0. -/
theorem witness_MeasurementCompletes :
    ∀ n ∈ [0, 1],
      { run with imon.seq := .injecting .p4 124, imon.noResponse := n }.imon.seq =
        .injecting .p4 (125 * 2 ^ run.mdu.cfg.phaseCode - 1) ∧
      run.mdu.cfg.crop < 125 * 2 ^ run.mdu.cfg.phaseCode ∧
      run.imon.sums.s1 - run.imon.sums.s2 - run.imon.sums.s3 + (run.imon.sums.s4 + 0) ≤ 0 ∧
      run.pbi.attempt = none ∧ run.mfe.record.ustr = some 3800 ∧ run.mdu.dormantTimer ≠ .expired ∧
      run.latched .injector = false := by decide +kernel

/-- 6.7.1 and 6.7.2 at station 5: VALID 100, then WAITING for 31 s. -/
theorem witness_MeasurementCompletes_valid :
    0 < (40300 : Int) - -39700 - -39700 + (39897 + 403) ∧
    resistance run.mdu.cfg.rm run.mdu.cfg.uinj run.mdu.cfg.rc 100 160000 = (.valid, 100) ∧
    after (.insulationSample 403)
      { run with
        imon.seq := .injecting .p4 124, imon.sums := ⟨40300, -39700, -39700, 39897⟩, imon.intentSeq := 1,
        pbi.random := 20496 }
      (fun t => (t.imon.seq, t.pbi.result)) =
      some (.waiting 31000000, some ⟨[1, 0, 0, 100, 0x0E, 0xD8], 0⟩) := by decide +kernel

/-- An unclaimed bus with no entry, and one claimed by the peer intent timer and by a FRESH entry of age 2; a timer
that has just been set. -/
theorem witness_TurnTaken :
    run.imon.seq = .waiting 5 ∧ { run with imon.seq := .holdoff 5 }.imon.seq = .holdoff 5 ∧
    run.pbi.attempt = none ∧ run.imon.timerFresh = false ∧ { run with imon.timerFresh := true }.imon.timerFresh = true ∧
    run.imon.peerIntent = none ∧ run.pvt.view = [] ∧
    { run with imon.peerIntent := some 1 }.imon.peerIntent = some 1 ∧
    { run with
      pvt.view := [⟨5, .module, 2, some ⟨some 1, 40, false, true⟩⟩] }.busClaimed = true ∧
    after .intervalTimerExpiry { run with imon.intentSeq := 255 }
      (fun t => (t.imon.seq, t.imon.intentSeq, t.pbi.intent)) = some (.pending, 0, some ⟨[0], 0⟩) ∧
    after .holdoffTimerExpiry { run with imon.seq := .holdoff 5, imon.peerIntent := some 1 }
      (fun t => (t.imon.seq, t.pbi.random)) = some (.holdoff 4000000, 64875) := by decide +kernel

/-- A window that runs out; a peer intent timer that runs out, and one restarted at this instant. -/
theorem witness_WindowEnds :
    { run with imon.seq := .window 1 }.imon.seq = .window 1 ∧ run.imon.timerFresh = false ∧
    { run with imon.peerIntent := some 299999 }.imon.peerIntent = some 299999 ∧
    after .peerIntentTimerExpiry { run with imon.peerIntent := some 299999 } (fun t => t.imon.peerIntent) =
      some none ∧
    after .peerIntentTimerExpiry { run with imon.peerIntent := some 300000 } (fun t => t.imon.peerIntent) =
      some (some 300000) := by decide +kernel

/-- A quiet time of 80 µs, one of 79, and one of 0. -/
theorem witness_BusSensing :
    run.mdu.mode.runs = true ∧ run.pbi.attempt = none ∧ 80 ≤ run.pbi.quiet ∧
    { run with pbi.quiet := 79 }.pbi.quiet < 80 ∧ 0 < { run with pbi.quiet := 79 }.pbi.quiet ∧
    { run with pbi.quiet := 0 }.pbi.quiet = 0 := by decide +kernel

/-- The four slots in their order; a beacon lasts 500 µs. -/
theorem witness_AttemptStarts :
    run.mdu.mode.runs = true ∧ 80 ≤ run.pbi.quiet ∧ run.pbi.holdoff = none ∧ run.pbi.attempt = none ∧
    { run with pbi.intent := some ⟨[1], 0⟩ }.pbi.choice = some .intent ∧
    { run with pbi.result := some ⟨[1, 0, 0, 0, 0, 0], 0⟩ }.pbi.choice = some .result ∧
    { run with pbi.beacon := some 0 }.pbi.choice = some .beacon ∧
    { run with pbi.logReply := some ⟨[1, 0, 0, 0, 0, 0, 0, 0, 0], 0⟩ }.pbi.choice = some .logReply ∧
    after .attemptStart { run with pbi.beacon := some 0 } (fun t => t.pbi.attempt.map Attempt.left) =
      some (some 500) := by decide +kernel

/-- An attempt of a slot. -/
def attempt (k : SlotKind) : Attempt := { slot := k, telegram := [], claim := 40, left := 100 }

/-- 2.6.2: station 3's collision of an intent; the eighth failure of a result and of an intent. 2.6.4: a request held
during the attempt; a withdrawn intent, and a held one. -/
theorem witness_CollisionBacksOff :
    run.pbi.heldResult = none ∧ run.pbi.heldBeacon = false ∧ run.pbi.heldIntent = none ∧ run.imon.seq ≠ .pending ∧
    after .collision { run with pbi.attempt := some (attempt .beacon), pbi.beacon := some 3, pbi.heldBeacon := true }
      (fun t => (t.pbi.beacon, t.pbi.heldBeacon)) = some (some 0, false) ∧
    after .collision
      { run with pbi.attempt := some (attempt .intent), pbi.intent := some ⟨[1], 6⟩, imon.seq := .pending }
      (fun t => (t.pbi.intent, t.imon.seq)) = some (some ⟨[1], 7⟩, .pending) ∧
    after .collision
      { run with pbi.attempt := some (attempt .intent), pbi.intent := some ⟨[1], 0⟩, pbi.withdrawn := true }
      (fun t => (t.pbi.intent, t.pbi.withdrawn)) = some (none, false) ∧
    after .collision
      { run with pbi.attempt := some (attempt .intent), pbi.intent := some ⟨[1], 7⟩, pbi.heldIntent := some [2] }
      (fun t => (t.pbi.intent, t.imon.seq)) = some (some ⟨[2], 0⟩, .waiting 5) ∧
    after .collision { run with pbi.attempt := some (attempt .result), pbi.result := some ⟨[], 7⟩ }
      (fun t => (t.pbi.result, t.pbi.holdoff)) = some (none, some 960) ∧
    after .collision { run with pbi.attempt := some (attempt .beacon), pbi.beacon := some 6 }
      (fun t => t.pbi.beacon) = some (some 7) ∧
    after .collision { run with pbi.attempt := some (attempt .logReply), pbi.logReply := some ⟨[], 0⟩ }
      (fun t => t.pbi.logReply) = some (some ⟨[], 1⟩) ∧
    after .collision
      { run with pbi.attempt := some (attempt .intent), pbi.intent := some ⟨[1], 7⟩, imon.seq := .pending }
      (fun t => (t.pbi.intent, t.pbi.holdoff, t.imon.seq, t.pbi.random)) =
      some (none, some 960, .holdoff 1000000, 20640) := by decide +kernel

/-- An attempt of each slot; 2.6.4's held request; an intent whose sequencer has gone OFF. -/
theorem witness_AttemptSucceeds :
    (∀ k ∈ [SlotKind.result, .logReply, .intent, .beacon],
      { run with pbi.attempt := some (attempt k), imon.seq := .pending }.pbi.attempt = some (attempt k) ∧
      (attempt k).slot = k) ∧ run.pbi.heldIntent = none ∧
    after .attemptSuccess { run with pbi.attempt := some (attempt .beacon), pbi.beacon := some 3, pbi.heldBeacon := true }
      (fun t => (t.pbi.beacon, t.she.claimTx)) = some (some 0, 40) ∧
    after .attemptSuccess
      { run with pbi.attempt := some (attempt .intent), pbi.intent := some ⟨[1], 0⟩, imon.seq := .off }
      (fun t => (t.pbi.intent, t.imon.seq)) = some (none, .off) := by decide +kernel

theorem witness_RecessiveStretch : 0 + 10 ≤ (wireLevels halt14).length ∧ 50 + 10 ≤ (wireLevels halt14).length := by
  decide +kernel

/-- The least and the greatest payload of each kind. -/
theorem witness_TelegramRoundTrip_DamagedTelegram :
    (∀ x ∈ [(Kind.beacon, 20), (.contract, 19), (.contract, 55), (.halt, 1), (.injectIntent, 1), (.isoResult, 6),
        (.logRead, 6), (.logRecord, 9), (.logRecord, 56), (.flagClear, 3)],
      x.1.permits (List.replicate x.2 (0 : Byte)).length = true) ∧
    frame 14 .halt [3] = halt14 ∧ 5 < (frame 14 .halt [3]).length ∧ halt14[5]? ≠ some 0 := by decide +kernel

theorem witness_BeaconRoundTrip : run.mdu.phase < 4 ∧ run.she.claim < 65536 := by decide +kernel

/-- Taken up on an idle bus and after a level; not taken up on a busy bus; a telegram of the own id in progress at a
start is no arrival. TELEGRAM_DISCARDED at 78 and at 79 µs of quiet, and during an own attempt. -/
theorem witness_DiscardedWithoutTrace :
    run.Hears ∧ { run with pbi.quiet := 0, pbi.receiving := true, pbi.foreign := true }.Hears ∧
    checkTelegram [] = none ∧ run.mdu.mode.runs = true ∧ run.pbi.attempt = none ∧
    [78, 79, 80].map (fun q => after .telegramDiscarded { run with pbi.quiet := q, pbi.receiving := true, pbi.foreign := true }
      (fun t => (t.pbi.quiet, t.pbi.receiving))) = [some (0, false), some (79, false), some (80, false)] ∧
    after .telegramDiscarded { run with pbi.attempt := some (attempt .beacon), pbi.receiving := true }
      (fun t => t.pbi.receiving) = some true ∧
    ¬ { run with pbi.quiet := 79 }.Hears ∧
    after (.beaconArrival beacon5) { run with mdu.station := 5, pbi.quiet := 79 }
      (fun t => (t.latched .dupId, t.pbi.quiet, t.pvt.view)) = some (false, 0, []) := by
  decide +kernel

/-- Station 5 hears a beacon of station 5. -/
theorem witness_OwnIdArrival :
    run.Hears ∧ run.mdu.dormantTimer ≠ .expired ∧ run.latched .dupId = false ∧
    after (.beaconArrival beacon5) { charging with mdu.station := 5 }
      (fun t => (t.latched .dupId, t.imon.seq, t.slu.session.isOpen, t.pvt.view)) = some (true, .off, false, []) :=
  by decide +kernel

/-- No record, a HELD one, and a conflict that the source ends by a LOG_RECORD. -/
theorem witness_PeerEntrySettled :
    run.Hears ∧ (5 : Nat) ≠ run.mdu.station ∧ (4 : Nat) ≠ run.mdu.station ∧
    ((beacon5.drop 3).getD 9 0).getLsbD 1 = false ∧ run.pvt.record = none ∧
    (underContract run).pvt.record = some contract ∧ contract.status = .held ∧
    { contract with status := .conflicted 13 }.status = .conflicted 13 ∧
    showsInlet (underContract run).pvt.view 14 = true ∧
    after (.logRecordArrival (frame 14 .logRecord [1, 0, 0, 0, 0, 0, 0, 0, 0]))
      { underContract run with pvt.record := some { contract with status := .conflicted 13 } }
      (fun t => t.pvt.record.map Contract.status) = some (some .resolving) := by decide +kernel

/-- NONE, RESOLVING, a new sequence from the source, and a station that finds the source's entry gone; from IDLE, from
PENDING and from OPEN, with the buffer free and occupied, and a contract that carries no plug. -/
theorem witness_ContractAccepted :
    run.Hears ∧ (14 : Nat) ≠ run.mdu.station ∧ Accepts run.pvt.view run.pvt.record 14 40 ∧
    Accepts [] (some { contract with status := .resolving }) 14 40 ∧
    Accepts [] (some { contract with seq := 39 }) 14 40 ∧ Accepts [] (some { contract with source := 13 }) 14 40 ∧
    after (.contractArrival contract14) run
      (fun t => (t.clock.day, t.clock.second, t.clock.valid, t.pvt.record.map Contract.lim1)) =
      some (812, 21600, true, some 630) ∧
    after (.contractArrival contract14) { run with imon.seq := .waiting 900000 }
      (fun t => (t.slu.session, t.imon.seq, t.pbi.random)) =
      some (.pending 7301 60000000, .waiting 811000, 64875) ∧
    after (.contractArrival contract14) { run with slu.session := .pending 7300 5, imon.clearance := true }
      (fun t => (t.slu.session, t.imon.clearance)) = some (.pending 7301 60000000, false) ∧
    after (.contractArrival contract14) { charging with slu.session := .opened { record with id := 7300 } none }
      (fun t => (t.slu.session, t.slu.buffer.map fun b => (b.record.id, b.record.reason))) =
      some (.pending 7301 60000000, some (7300, .sessionChanged)) ∧
    after (.contractArrival (frame 14 .contract (((contract14.drop 3).take 28).set 1 0)))
      { run with slu.session := .pending 7301 5 } (fun t => t.slu.session) = some .idle := by
  refine ⟨by decide +kernel, by decide +kernel, trivial, trivial, by simp [Accepts, contract],
    by simp [Accepts, contract, showsInlet, entryOf], by decide +kernel, by decide +kernel, by decide +kernel,
    by decide +kernel, by decide +kernel⟩

/-- A list that is carried whole, with starts 0 and 1439, and three that are rejected. -/
theorem witness_ContractWindows :
    contractWindows (List.replicate 18 0 ++ [2, 0, 0, 3, 0x05, 0x9F, 0]) = [⟨0, 3⟩, ⟨1439, 0⟩] ∧
    contractWindows (List.replicate 18 0 ++ [1, 0x05, 0xA0, 0]) = [] ∧
    contractWindows (List.replicate 18 0 ++ [1, 0, 0, 4]) = [] ∧
    contractWindows ((contract14.drop 3).take 28) = [] := by decide +kernel

/-- A repeat, a CONTRACT in CONFLICTED, and one of a second inlet station. -/
theorem witness_ContractTurnedAway :
    run.Hears ∧ (14 : Nat) ≠ run.mdu.station ∧
    contract.seq = rd8 ((contract14.drop 3).take 28) 0 ∧
    showsInlet [⟨14, .inlet, 0, none⟩, ⟨13, .inlet, 7, none⟩] 14 = true ∧
    showsInlet [⟨14, .inlet, 0, none⟩, ⟨13, .inlet, 7, none⟩] 13 = true ∧
    showsInlet (underContract run).pvt.view contract.source = true ∧
    after (.contractArrival (frame 13 .contract ((contract14.drop 3).take 28))) (underContract run)
      (fun t => (t.pvt.record.map Contract.status, t.latched .contractConflict)) =
      some (some (.conflicted 13), true) := by decide +kernel

theorem witness_ConflictEnds :
    showsInlet (underContract run).pvt.view 14 = true ∧ showsInlet [] 14 = false ∧
    showsInlet [⟨13, .inlet, 7, none⟩] 13 = true ∧ showsInlet [⟨13, .reader, 0, none⟩] 13 = false := by
  decide +kernel

/-- 3.8.5: the source's HALT, and one of another station. -/
theorem witness_HaltArrives :
    (∀ e ∈ (underContract run).pvt.view, e.role ≠ .module → e.part = none) ∧
    run.Hears ∧ (14 : Nat) ≠ run.mdu.station ∧ (underContract run).pvt.record = some contract ∧
    contract.source = 14 ∧ contract.source ≠ 9 ∧
    after (.haltArrival halt14) (underContract run) (fun t => t.pvt.halted) = some 7301 ∧
    after (.haltArrival (frame 9 .halt [3])) (underContract run) (fun t => t.pvt.halted) = some 0 ∧
    { run with slu.session := .pending 7301 5 }.slu.session.isPending = true ∧
    charging.slu.session = .opened record none ∧ charging.slu.buffer = none ∧
    newestSeq charging.slu.table < 4294967295 ∧
    after (.haltArrival halt14) (underContract charging)
      (fun t => (t.slu.session, t.slu.buffer.map fun b => (b.record.id, b.record.reason))) =
      some (.idle, some (record.id, .halted)) := by
  decide +kernel

/-- 6.7.4: a peer's intent in phase 3; a peer's injecting flag heard by a pending intent. -/
theorem witness_PeerIntentArrives :
    run.Hears ∧ (7 : Nat) ≠ run.mdu.station ∧ run.pbi.attempt = none ∧
    after (.injectIntentArrival intent7) { run with imon.seq := .injecting .p3 60, imon.intentSeq := 1 }
      (fun t => (t.imon.isoSw, t.imon.sums, t.pbi.result, t.imon.peerIntent)) =
      some (.opened, ⟨0, 0, 0, 0⟩, some ⟨[1, 2, 0, 0, 0x0E, 0xD8], 0⟩, some 300000) ∧
    ((((beacon5.drop 3).take 20).set 9 2).getD 9 0).getLsbD 1 = true ∧
    after (.beaconArrival (frame 5 .beacon (((beacon5.drop 3).take 20).set 9 2)))
      { run with imon.seq := .pending, pbi.intent := some ⟨[1], 0⟩ }
      (fun t => (t.imon.seq, t.pbi.intent, t.imon.peerIntent)) = some (.holdoff 4000000, none, none) := by
  decide +kernel

/-- 6.7.2 at station 3: VALID 100 in HOLDOFF; and a second value below fault_k in a row. -/
theorem witness_PeerResultClassified :
    run.mdu.mode = .run ∧ run.Hears ∧ run.mdu.dormantTimer ≠ .expired ∧
    (5 : Nat) ≠ run.mdu.station ∧ rd8 [1, 0, 0, 100, 0x0E, 0xD8] 1 = 0 ∧
    (100 : Nat) = min (rd16 [1, 0, 0, 100, 0x0E, 0xD8] 2) 10000 ∧ rd8 [1, 1, 0, 0, 0, 0] 1 = 1 ∧
    2 ≤ rd8 [1, 2, 0, 0, 0, 0] 1 ∧
    after (.isoResultArrival result5) { run with imon.seq := .holdoff 700000, pbi.random := 60265 }
      (fun t => (t.imon.belowFault, t.imon.belowWarn, t.imon.aboveWarn, t.imon.insulation)) =
      some (0, 1, 0, .unknown) ∧
    after (.isoResultArrival (frame 5 .isoResult [1, 0, 0, 25, 0, 0]))
      { charging with imon.insulation := .warning, imon.belowFault := 1, imon.belowWarn := 3 }
      (fun t => (t.imon.insulation, t.latched .isoFault, t.slu.session)) = some (.fault, true, .idle) := by
  decide +kernel

/-- A clearance that opens the PENDING session, and one that finds the line not GOOD. -/
theorem witness_PeerResultClassified_opens :
    run.imon.clearance = false ∧ run.mfe.line = .good ∧ run.mdu.cfg.faultK ≤ 100 ∧
    { run with slu.session := .pending 7301 5 }.OpeningSafe ∧ run.OpeningSafe ∧
    DemandMinutes run.mdu.cfg.demandCode 5 ∧
    after (.isoResultArrival result5)
      { run with slu.session := .pending 7301 5, imon.seq := .waiting 1, pbi.random := 60265, clock := ⟨812, 29240, true, 9⟩ }
      (fun t => (t.slu.session, t.emt.active, t.emt.interval, t.imon.seq)) =
      some (.opened { record with minIns := none } none, true, some ⟨29400, 487, .day⟩, .waiting 32000000) ∧
    after (.isoResultArrival result5)
      { run with slu.session := .pending 7301 5, mfe.line := .settling }
      (fun t => (t.slu.session, t.imon.clearance)) = some (.pending 7301 5, true) := by
  decide +kernel

/-- 8.9.1: RECORD, PENDING_WRITE and NOT_HELD; an empty log asked for its newest, and one that
holds 8 and 10. -/
theorem witness_LogReadAnswered :
    run.Hears ∧ (9 : Nat) ≠ run.mdu.station ∧ run.pbi.logReply = none ∧
    rd8 [3, 0, 0, 0, 0, 10] 0 = run.mdu.station ∧ rd8 [3, 0, 0, 0, 0, 10] 1 ≠ 1 ∧
    rd8 [3, 1, 0, 0, 0, 0] 1 = 1 ∧ heldSequences run.slu.table = [] ∧
    slotOf (run.slu.table.set 9 (some 10)) 10 = some 9 ∧ slotOf run.slu.table 10 = none ∧
    after (.logReadArrival (frame 9 .logRead [3, 0, 0, 0, 0, 10])) run (fun t => t.pbi.logReply) =
      some (some ⟨[1, 0, 0, 0, 0, 0, 0, 0, 0], 0⟩) ∧
    (run.slu.table.set 9 (some 10)).length = 16 ∧ slotEntry (run.slu.table.set 9 (some 10)) 9 = some 10 ∧
    after (.logReadArrival (frame 9 .logRead [3, 1, 0, 0, 0, 0]))
      { run with slu.table := (run.slu.table.set 9 (some 10)).set 3 (some 8) }
      (fun t => t.pbi.logReply.map fun x => x.payload.take 9) =
      some (some [0, 0, 0, 0, 8, 0, 0, 0, 10]) := by decide +kernel

/-- 9.6: LINE and ISO_WARN, the condition of the first ended and that of the second holding; INJECTOR cleared with the
sequencer OFF; THERM_SENSOR cleared, which lets the PENDING session open. -/
theorem witness_FlagClear :
    run.Hears ∧ (9 : Nat) ≠ run.mdu.station ∧ run.pvt.record = none ∧
    rd8 [255, 0, 0x21] 0 = 255 ∧ State.reset.mdu.mode.runs = false ∧
    { run with flu.flags := 0x21, flu.alert := true }.AlertSafe ∧
    after (.flagClearArrival flagClear9) { run with flu.flags := 0x21 } (fun t => t.flu.flags) = some 0x01 ∧
    after (.flagClearArrival (frame 9 .flagClear [3, 0, 4]))
      { run with flu.flags := 4, imon.seq := .off, imon.noResponse := 2, pbi.random := 60265 }
      (fun t => (t.flu.flags, t.imon.noResponse, t.imon.seq)) = some (0, 0, .waiting 32000000) ∧
    { run with flu.flags := 8, slu.session := .pending 7301 5, imon.clearance := true }.OpeningSafe ∧
    after (.flagClearArrival (frame 9 .flagClear [3, 0, 8]))
      { run with flu.flags := 8, slu.session := .pending 7301 5, imon.clearance := true }
      (fun t => (t.slu.session.isOpen, t.emt.active)) = some (true, true) := by
  decide +kernel

/-- The second and the third period of LISTENING, the third with a PENDING session that waits for its clearance and one
that opens, an entry of age 7, a claim that rises by the ramp, and a conflict
whose source has been silent. -/
theorem witness_OwnBeaconPeriod :
    run.mdu.mode.runs = true ∧
    after (.ownBeaconPeriod true) { run with mdu.mode := .listening, mdu.listening := 1 }
      (fun t => (t.mdu.mode, t.mdu.listening)) = some (.listening, 2) ∧
    after (.ownBeaconPeriod false) { run with mdu.mode := .listening, mdu.listening := 2, imon.seq := .off }
      (fun t => (t.mdu.mode, t.mdu.dormantTimer)) = some (.run, .running 60000000) ∧
    after (.ownBeaconPeriod false)
      { run with mdu.mode := .listening, mdu.listening := 2, imon.seq := .off, slu.session := .pending 7301 5 }
      (fun t => (t.imon.seq, t.pbi.random, t.slu.session)) = some (.waiting 811000, 64875, .pending 7301 5) ∧
    after (.ownBeaconPeriod false)
      { run with
        mdu.mode := .listening, mdu.listening := 2, imon.seq := .off, slu.session := .pending 7301 5,
        imon.clearance := true }
      (fun t => t.slu.session.isOpen) = some true ∧
    after (.ownBeaconPeriod true) { run with pvt.view := [⟨6, .module, 7, none⟩] } (fun t => t.pvt.view) =
      some [] ∧
    after (.ownBeaconPeriod true) { underContract charging with she.demand := 264, she.claim := 40 }
      (fun t => (t.she.claim, t.pbi.beacon)) = some (70, some 0) ∧
    { underContract charging with she.demand := 264, she.claim := 40 }.claimBarred = false ∧
    after (.ownBeaconPeriod true)
      { underContract charging with
        pvt.record := some { contract with status := .conflicted 13 }, pvt.view := [⟨14, .inlet, 7, none⟩] }
      (fun t => t.pvt.record.map Contract.status) = some (some .resolving) := by decide +kernel

/-- A timer that runs out, and one that an arrival has restarted at the same instant (R49). -/
theorem witness_ContractLoss :
    { underContract charging with pvt.lossTimer := some 999999 }.pvt.lossTimer = some 999999 ∧
    (underContract charging).pvt.lossTimer = some 1000000 ∧ charging.mdu.dormantTimer ≠ .expired ∧
    after .contractLoss { underContract charging with pvt.lossTimer := some 999999 }
      (fun t => (t.pvt.record, t.slu.session)) = some (none, .idle) ∧
    after .contractLoss (underContract charging) (fun t => t.pvt.record) = some (some contract) := by decide +kernel

/-- Midnight at the end of day 65535, an interval that ends at second 0 and one that does not, L = 5; a set that is a
time jump, and one of 2 s. -/
theorem witness_OneSecondAdvance :
    charging.mdu.cfg.demandCode = 1 ∧ run.emt.active = false ∧ charging.emt.active = true ∧
    60 * 5 ≤ (86399 + 86400 - 0) % 86400 ∧ (0 + 86400 - 0) % 86400 < 60 * 5 ∧
    after .oneSecondAdvance { run with clock := ⟨65535, 86399, true, 1⟩ } (fun t => t.clock) =
      some ⟨0, 0, true, 1000000⟩ ∧
    after .oneSecondAdvance
      { charging with
        clock := ⟨812, 86399, true, 1⟩, emt.interval := some ⟨0, 1435, .day⟩, emt.count := 61 }
      (fun t => (t.emt.peak, t.emt.interval, t.emt.count)) =
      some (some ⟨732, 1435, .day⟩, some ⟨300, 0, .day⟩, 0) ∧
    State.reset.clock.toAdvance = 1000000 ∧ charging.Hears ∧ charging.pvt.record = none ∧
    charging.slu.session = .opened record none ∧ charging.emt.interval = some ⟨900, 0, .opening⟩ ∧
    rd8 ((contract14.drop 3).take 28) 1 ≠ 0 ∧ rd32 ((contract14.drop 3).take 28) 2 = record.id ∧
    after (.contractArrival contract14) { charging with emt.count := 7 }
      (fun t => (t.clock, t.emt.peak, t.emt.interval, t.emt.count)) =
      some (⟨812, 21600, true, 1000000⟩, some ⟨7, 0, .opening⟩, some ⟨21900, 360, .day⟩, 0) ∧
    after (.contractArrival contract14) { charging with emt.count := 7, clock := ⟨812, 21602, true, 9⟩ }
      (fun t => (t.clock.second, t.emt.count)) = some (21600, 7) := by decide +kernel

theorem witness_OverdrawEvent :
    { charging with she.overdrawTimer := some 1 }.she.overdrawTimer = some 1 ∧
    charging.mdu.dormantTimer ≠ .expired ∧ charging.slu.session.isOpen = true ∧
    after .overdrawTimerExpiry { charging with she.overdrawTimer := some 1 }
      (fun t => (t.slu.session, t.slu.buffer.map fun b => b.record.reason)) =
      some (.idle, some .overdraw) := by decide +kernel

/-- 8.9.2's table, with the buffer free and with it occupied. -/
theorem witness_SessionTimers :
    { run with slu.session := .pending 7301 5 }.slu.session = .pending 7301 5 ∧
    run.mdu.dormantTimer ≠ .expired ∧
    { charging with slu.session := .opened record (some 1) }.slu.session = .opened record (some 1) ∧
    charging.emt.interval = some ⟨900, 0, .opening⟩ ∧ run.slu.buffer = none ∧ newestSeq run.slu.table < 4294967295 ∧ run.slu.table.length = 16 ∧
    Memory.wf run.store = true ∧
    after .lineLossTimerExpiry
      { charging with
        slu.session := .opened record (some 1),
        slu.table := [49, 50, 51, 52, 53, 54, 55, 56, 41, 42, 43, 44, 45, 46, 47, 48].map some }
      (fun t => t.slu.buffer.map fun b => (b.record.seq, b.target.val, b.record.id)) =
      some (some (57, 8, 7301)) := by decide +kernel

/-- A record waiting for slot 9. -/
def waiting : Buffer :=
  { record :=
      { seq := 10, id := 7301, station := 4, phase := 1, opened := { day := 812, second := 29240, valid := true },
        closed := { day := 812, second := 31000, valid := true }, reason := .unplugged, imp0 := 0, imp1 := 1790,
        imp2 := 0, imp3 := 0, exp := 0, heat := 0, peak := some { watts := 3680, start := 495, basis := .day },
        minIns := some 780, flags := 0 },
    target := 9, failedSlot := none, left := 8000 }

/-- The first write, the second, and a session that waits in ENDED for the buffer. -/
theorem witness_StoreWrite :
    { run with slu.buffer := some waiting }.slu.buffer = some waiting ∧ run.mdu.dormantTimer ≠ .expired ∧
    run.slu.table.length = 16 ∧ run.slu.session = .idle ∧ waiting.failedSlot = none ∧
    { waiting with failedSlot := some 8 }.failedSlot = some 8 ∧
    newestSeq (run.slu.table.set 9 (some 10)) < 4294967295 ∧
    after (.storeWriteCompletion true)
      { run with slu.buffer := some waiting, slu.session := .ended record .halted ⟨812, 31000, true⟩ }
      (fun t => (slotEntry t.slu.table 9, t.slu.buffer.map fun b => b.record.seq, t.slu.session)) =
      some (some 10, some 11, .idle) := by decide +kernel

/-- 8.9.1's record: its 47 bytes by section 11.3. -/
theorem witness_CommittedRecord :
    Memory.wf run.store = true ∧ waiting.record.seq ≤ 4294967295 ∧
    waiting.record.bytes =
      [0, 0, 0, 10, 0, 0, 0x1C, 0x85, 0x41, 0x03, 0x2C, 0x00, 0x72, 0x38, 0x03, 0x2C, 0x00, 0x79, 0x18, 0x03, 1,
       0, 0, 0, 0, 0x06, 0xFE, 0, 0, 0, 0, 0, 0, 0, 0, 0, 0, 0, 0, 0x0E, 0x60, 0x01, 0xEF, 0x03, 0x0C, 0, 0] := by
  decide +kernel

/-- The timer's expiry with every condition met, with PLUG active, and the release that then completes them. -/
theorem witness_DormantEntry :
    run.mdu.mode = .run ∧ run.mdu.dormantTimer = .running 1000 ∧ 1000 < run.mdu.cfg.dormantTimeout * 1000000 ∧ run.slu.session = .idle ∧
    run.slu.buffer = none ∧ run.imon.seq = .waiting 5 ∧ run.mdu.cfg.wakeBus = true ∧ run.pins.plug = false ∧
    { run with pins.plug := true, mdu.dormantTimer := .expired }.pins.plug = true ∧
    after .dormantTimerExpiry run (fun t => t.mdu.mode) = some .dormant ∧
    after .plugRelease { run with pins.plug := true, mdu.dormantTimer := .expired } (fun t => t.mdu.mode) =
      some .dormant := by decide +kernel

/-- Station 3 asleep. -/
def asleep : State := { run with mdu.mode := .dormant, mdu.dormantTimer := .stopped, imon.seq := .off }

theorem witness_WakeEvents :
    asleep.mdu.mode = .dormant ∧ asleep.mdu.settling = none ∧ run.mdu.mode ≠ .dormant ∧
    { asleep with mdu.settling := some 1 }.mdu.settling ≠ none ∧ run.mdu.dormantTimer ≠ .expired := by
  decide +kernel

/-- Nothing held; PWR_FAIL held and still active; held and released. -/
theorem witness_ListeningBegins :
    { asleep with mdu.settling := some 1 }.mdu.mode = .dormant ∧
    { asleep with mdu.settling := some 1 }.mdu.settling = some 1 ∧ asleep.slu.session.isOpen = false ∧
    after .wakeSettlingEnd { asleep with mdu.settling := some 1 } (fun t => t.mdu.mode) = some .listening ∧
    after .wakeSettlingEnd
      { asleep with mdu.settling := some 1, mdu.heldPwrFail := true, pins.pwrFail := true }
      (fun t => t.mdu.mode) = some .powerHold ∧
    after .wakeSettlingEnd { asleep with mdu.settling := some 1, mdu.heldPwrFail := true }
      (fun t => (t.mdu.mode, t.mdu.heldPwrFail)) = some (.listening, false) := by decide +kernel

/-- 8.9.3: a session OPEN at PWR_FAIL. -/
theorem witness_PowerFail :
    charging.mdu.mode = .run ∧ State.reset.mdu.mode = .start ∧ asleep.mdu.mode = .dormant ∧
    { run with mdu.mode := .configHold }.mdu.mode = .configHold ∧
    after .pwrFailAssertion charging
      (fun t => (t.mdu.mode, t.slu.session, t.slu.buffer.map fun b => b.record.reason)) =
      some (.powerHold, .idle, some .powerFail) := by decide +kernel

/-- 7.9.1: sample 3914, and the accumulator at its two ends; the class before the first window; 7.9.7's scan 383. -/
theorem witness_EnergyMetered :
    charging.mdu.mode.runs = true ∧ charging.emt.active = true ∧ charging.slu.session.isOpen = true ∧
    1073741824 < charging.emt.qraw ∧ -(900000000000 : Int) < -899999999999 ∧ (899999999999 : Int) < 900000000000 ∧
    after (.meteringSample 14375 16000 true) { charging with emt.acc := 899990000000 }
      (fun t => (t.emt.acc, t.emt.imp0, t.emt.count)) = some (220000000, 1, 1) ∧
    { underContract charging with clock.valid := true, pvt.record := some { contract with windows := [⟨360, 1⟩, ⟨1320, 2⟩] }
      }.tariffClass = 2 ∧
    [⟨360, 1⟩, ⟨1320, 2⟩].Pairwise (fun a b : Window => a.start < b.start) ∧
    after (.scanComplete 3040 300 300 300 300 1500 2048 true)
      { charging with emt.heatAcc := 359080, she.phApplied := 940 }
      (fun t => (t.slu.session.isOpen, t.emt.heatAcc, t.emt.heatCount)) = some (true, 20, 1) := by decide +kernel

theorem witness_StepRunsFrontCommand :
    { run with pending := [.busIdle, .scanStart] }.pending = .busIdle :: [.scanStart] := by decide +kernel

/-! ## The invariants: a state other than reset that meets each, and a step from it -/

/-- Station 3 charging in step 2 of the HTR period, in phase 1 of a measurement, drawing 40 dA. -/
def busy : State :=
  { underContract charging with
    imon.seq := .injecting .p1 30, imon.injecting := true, imon.isoSw := .plus, thu.heater := .on,
    thu.inForce := 5, thu.step := 2, thu.htr := true, she.dutyApplied := 5, she.demand := 264,
    she.wanting := true, she.claim := 40, she.claimTx := 40, she.drawn := 40, she.idcSet := 12, she.chgEn := true,
    she.iRef := 12, flu.flags := 0x20, flu.alert := true, pending := [.stepBoundary] }

theorem witness_invariants :
    busy.InjectionSafe ∧ busy.HeaterSafe ∧ busy.ChargeSafe ∧ busy.SessionSafe ∧
    { busy with slu.session := .pending 7301 5 }.OpeningSafe ∧ busy.AlertSafe ∧
    busy.LogDistinct ∧ busy.LogHeld ∧ busy.ViewSafe := by
  refine ⟨by decide +kernel, by decide +kernel, by decide +kernel, by decide +kernel, by decide +kernel,
    by decide +kernel,
    ⟨by decide +kernel, by decide +kernel, trivial⟩, ⟨by decide +kernel, by decide +kernel, ?_, trivial⟩,
    by decide +kernel⟩
  intro slot n h
  revert h
  fin_cases slot <;> intro h <;> cases h

theorem test_step_from_busy : step busy = .next { busy with thu.step := 3, pending := [] } := rfl

/-! ## Two events of one instant -/

/-- What a list of commands leaves. -/
def afterAll {α : Type} (f : State → α) : List Instr → State → Option α
  | [], s => some (f s)
  | c :: rest, s =>
    match exec c s with
    | .next t => afterAll f rest t
    | .fault _ => none
    | .refused _ => none

/-- R49, R52, R99: a CONTRACT and then the loss, a set and then the advance, a result and then the interval's end. -/
theorem test_first_event_wins :
    afterAll (fun t => t.pvt.record.isSome) [.contractArrival contract14, .contractLoss]
      { run with pvt.lossTimer := some 0 } = some true ∧
    afterAll (fun t => t.clock.second) [.contractArrival contract14, .oneSecondAdvance]
      { run with clock := ⟨812, 5, true, 0⟩ } = some 21600 ∧
    afterAll (fun t => (t.imon.seq, t.pbi.intent)) [.isoResultArrival result5, .intervalTimerExpiry]
      { run with imon.seq := .waiting 0, pbi.random := 60265 } = some (.waiting 32000000, none) := by decide +kernel

/-- 2.6.2: with its holdoff run out and the bus idle, the attempt starts at that very instant. -/
theorem test_attempt_starts_at_first_instant :
    (step { run with pbi.beacon := some 0 }) =
      .next { run with pbi.beacon := some 0, freeIndex := 1, pending := [.attemptStart] } := rfl

/-- R20: 80 µs after a level that no telegram follows the bus is idle, without any other command. -/
theorem test_lone_level :
    State.busDue { run with pbi.quiet := 79, pbi.receiving := true, pbi.foreign := true } = [.busIdle] ∧
    afterAll (fun t => (t.pbi.quiet, t.pbi.receiving)) [.busActivity, .busIdle] { run with pbi.quiet := 80 } =
      some (0, true) := by decide +kernel

/-- R32: a take-up truncated at the instant of an idle bus, its discard taken after that instant's attempt has started:
after a collision the receiver still goes on with the other telegram. Taken before BUS_IDLE, it leaves the bus idle. -/
theorem test_truncation_at_idle :
    afterAll (fun t => (t.takesUp, t.pbi.quiet)) [.busIdle, .attemptStart, .telegramDiscarded, .collision]
      { run with pbi.quiet := 79, pbi.receiving := true, pbi.foreign := true, pbi.beacon := some 0 } =
      some (true, 0) ∧
    afterAll (fun t => (t.busIdle, t.pbi.receiving)) [.telegramDiscarded, .busIdle]
      { run with pbi.quiet := 79, pbi.receiving := true, pbi.foreign := true } = some (true, false) := by
  decide +kernel

end Sys2Proof.Tests
end

section
/-! PROOF. An arrival of an inlet station's kind at the station, and the HALT (R32, R36, R51): the sender's entry is
settled as INLET and ends no conflict, the dormant timer restarts, and the end of a session that the source halts leaves
nothing for the test of R147 to open. -/

namespace Sys2Proof.Machine

/-! ## The peer view with one entry put in place -/

theorem entryOf_putEntry_same (e : Entry) (view : List Entry) : entryOf (putEntry e view) e.id = some e := by
  induction view with
  | nil => simp [putEntry, entryOf]
  | cons f rest ih =>
    unfold putEntry
    split
    · simp [entryOf]
    · split
      · simp [entryOf]
      · next hne => simpa [entryOf, Ne.symm hne] using ih

theorem entryOf_putEntry_other {e : Entry} {id : Nat} (h : id ≠ e.id) (view : List Entry) :
    entryOf (putEntry e view) id = entryOf view id := by
  induction view with
  | nil => simp [putEntry, entryOf, h.symm]
  | cons f rest ih =>
    unfold putEntry
    split
    · simp [entryOf, h.symm]
    · split
      · next heq => simp [entryOf, h.symm, ← heq]
      · simp only [entryOf, List.find?_cons] at ih ⊢
        rw [ih]

/-- An INLET entry put into the view takes no station's INLET role away (R48). -/
theorem inletLost_putEntry {e : Entry} (h : e.role = .inlet) (view : List Entry) (id : Nat) :
    inletLost view (putEntry e view) id = false := by
  by_cases hid : id = e.id
  · simp [inletLost, showsInlet, hid, entryOf_putEntry_same, h]
  · simp [inletLost, showsInlet, entryOf_putEntry_other hid]

/-- An INLET entry put into the view ends no conflict (R48). -/
theorem resolve_putEntry {e : Entry} (h : e.role = .inlet) (view : List Entry) (r : Contract) :
    r.resolve view (putEntry e view) = r := by
  unfold Contract.resolve
  split <;> simp [inletLost_putEntry h]

theorem setView_putEntry {e : Entry} (h : e.role = .inlet) (s : State) :
    s.setView (putEntry e s.pvt.view) = { s with pvt.view := putEntry e s.pvt.view } := by
  have hrec : s.pvt.record.map (Contract.resolve s.pvt.view (putEntry e s.pvt.view)) = s.pvt.record := by
    cases s.pvt.record <;> simp [resolve_putEntry h]
  simp [State.setView, hrec]

/-- A kind of an inlet station leaves its sender without a module part, when MODULE entries alone have one (R37). -/
theorem partAfter_inlet {k : Kind} (hk : k.role = .inlet) {view : List Entry}
    (hparts : ∀ e ∈ view, e.role ≠ .module → e.part = none) (id : Nat) (p : List Byte) :
    partAfter (entryOf view id) k p = none := by
  unfold partAfter
  split
  · simp [Kind.role] at hk
  · next e _ he =>
    split
    · next hrole => exact hparts e (List.mem_of_find?_eq_some he) (by simp [hrole, hk])
    · rfl
  · rfl

/-! ## The arrival -/

/-- The state in which an inlet station's telegram is passed on: the telegram has ended on the bus, the sender's entry
is settled, and in RUN the dormant timer has restarted (R32, R36, R172). -/
def State.settledInlet (source : Nat) (s : State) : State :=
  { s with
    pbi.quiet := 0, pbi.foreign := false, pbi.receiving := false,
    pvt.view := putEntry { id := source, role := .inlet, age := 0, part := none } s.pvt.view,
    mdu.dormantTimer := if s.mdu.mode = .run then .running s.dormantTime else s.mdu.dormantTimer }

@[simp] theorem State.settledInlet_rest (s : State) (source : Nat) :
    (s.settledInlet source).mdu.mode = s.mdu.mode ∧ (s.settledInlet source).pvt.record = s.pvt.record ∧
    (s.settledInlet source).pvt.lossTimer = s.pvt.lossTimer ∧ (s.settledInlet source).pvt.halted = s.pvt.halted ∧
    (s.settledInlet source).clock = s.clock ∧ (s.settledInlet source).slu = s.slu := by
  simp [State.settledInlet]

theorem takesUp_of_hears {s : State} (h : s.Hears) : s.takesUp = true := by
  obtain ⟨-, ⟨hrec, hfor⟩ | ⟨hquiet, hatt⟩⟩ := h
  · simp [State.takesUp, hrec, hfor]
  · simp [State.takesUp, State.busIdle, idleTime, hquiet, hatt]

/-- A telegram of another station that the station hears is settled, reported and passed on (R33, R36, R40). -/
theorem receive_of_hears {s : State} {rx : Received} {t : List Byte} (pass : Received → State → State)
    (hh : s.Hears) (hc : checkTelegram t = some rx) (hs : rx.source ≠ s.mdu.station) :
    s.receive rx.kind t pass = pass rx ((s.telegramEnds.settleEntry rx).heard rx.kind) := by
  have hruns : s.runs = true := hh.1
  simp [State.receive, hruns, takesUp_of_hears hh, State.completeTelegram, hc, hs]

theorem settled_heard_inlet {s : State} {rx : Received} (hk : rx.kind.role = .inlet)
    (hparts : ∀ e ∈ s.pvt.view, e.role ≠ .module → e.part = none) :
    (s.telegramEnds.settleEntry rx).heard rx.kind = s.settledInlet rx.source := by
  have hw : rx.kind.wakeful = true := by revert hk; cases rx.kind <;> simp [Kind.role, Kind.wakeful]
  have hview : s.telegramEnds.pvt = s.pvt := rfl
  rw [State.settleEntry, hk, hview, partAfter_inlet hk hparts, ← hview, setView_putEntry rfl]
  by_cases hrun : s.mdu.mode = .run <;>
    simp [State.heard, State.settledInlet, State.telegramEnds, State.takeUpEnds, State.dormantTime, hw, hrun]

/-- After an inlet station's telegram the DORMANT entry test finds a running timer in RUN (R172, R173). -/
theorem dormantTest_settledInlet {before s t : State} {source : Nat} (h : t.mdu = (s.settledInlet source).mdu) :
    State.dormantTest before t = t := by
  have : t.dormantReady = false := by
    by_cases hrun : s.mdu.mode = .run <;> simp [State.dormantReady, h, State.settledInlet, hrun]
  simp [State.dormantTest, this]

/-- A HALT that the station hears: the sender is settled, and the record judges it (R36, R51). -/
theorem exec_haltArrival {s : State} {source : Nat} {t p : List Byte} (hh : s.Hears)
    (hparts : ∀ e ∈ s.pvt.view, e.role ≠ .module → e.part = none) (hs : source ≠ s.mdu.station)
    (hc : checkTelegram t = some { source := source, kind := .halt, payload := p }) :
    exec (.haltArrival t) s = .next ((s.settledInlet source).haltArrives source) := by
  have hrec : s.receive .halt t State.peerHalt = (s.settledInlet source).haltArrives source := by
    rw [receive_of_hears State.peerHalt hh hc hs, settled_heard_inlet rfl hparts, State.peerHalt]
  change Host.Outcome.next (State.dormantTest s (s.receive .halt t State.peerHalt)) = _
  rw [hrec, dormantTest_settledInlet (s := s) (source := source) (by simp)]

/-! ## HALT at the record -/

/-- The halted session id after a HALT of the record's source: the record's session, unless it is 0 (R51). -/
def State.noteHalt (r : Contract) (s : State) : State :=
  { s with pvt.halted := if r.session = 0 then s.pvt.halted else r.session }

@[simp] theorem State.noteHalt_rest (s : State) (r : Contract) :
    (s.noteHalt r).mdu = s.mdu ∧ (s.noteHalt r).pvt.record = s.pvt.record ∧
    (s.noteHalt r).pvt.lossTimer = s.pvt.lossTimer ∧ (s.noteHalt r).clock = s.clock ∧
    (s.noteHalt r).slu = s.slu ∧
    (s.noteHalt r).pvt.halted = if r.session = 0 then s.pvt.halted else r.session := by
  simp [State.noteHalt]

theorem noteHalt_halts (s : State) (r : Contract) : r.session = 0 ∨ r.session = (s.noteHalt r).pvt.halted := by
  by_cases h : r.session = 0 <;> simp [h]

theorem haltArrives_of_source {s : State} {r : Contract} (hr : s.pvt.record = some r) :
    s.haltArrives r.source = (s.noteHalt r).sessionStops .halted := by
  simp [State.haltArrives, State.noteHalt, hr]

theorem haltArrives_of_other {s : State} {source : Nat} (h : ∀ r, s.pvt.record = some r → r.source ≠ source) :
    s.haltArrives source = s := by
  cases hr : s.pvt.record with
  | none => simp [State.haltArrives, hr]
  | some r => simp [State.haltArrives, hr, (h r hr).symm]

theorem sessionStops_pending {s : State} (hm : s.mdu.mode.handlesSessions = true)
    (hp : s.slu.session.isPending = true) (reason : EndReason) : s.sessionStops reason = s.returnToIdle := by
  cases hs : s.slu.session <;> simp_all [State.sessionStops, Session.isPending]

theorem sessionStops_opened {s : State} (hm : s.mdu.mode.handlesSessions = true) {o : OpenRecord}
    {left : Option Nat} (ho : s.slu.session = .opened o left) (reason : EndReason) :
    s.sessionStops reason = s.endSession reason := by
  simp [State.sessionStops, hm, ho]

theorem handlesSessions_of_runs {m : Mode} (hr : m.runs = true) (hc : m ≠ .configHold) :
    m.handlesSessions = true := by
  cases m <;> simp_all [Mode.runs, Mode.handlesSessions]

/-! ## The session that stops -/

/-- A PENDING session returns to IDLE with the buffer and the slot table as they were (R139). -/
theorem returnToIdle_slu {s : State} (h : s.slu.session.isPending = true) :
    s.returnToIdle.slu = { s.slu with session := .idle } := by
  obtain ⟨-, e⟩ | ⟨hn, -⟩ := returnToIdle_cases s
  · simp [e]
  · simp [h] at hn

/-- A recomputation keeps a claim of 0 (R81). -/
theorem recompute_claim_zero {s : State} (h : s.she.claim = 0) : s.recompute.she.claim = 0 := by
  simp [recompute_claim, h]

/-- With no session OPEN a recomputation brings the claim to 0 (R79, R81). -/
theorem recompute_claim_closed {s : State} (h : s.slu.session.isOpen = false) : s.recompute.she.claim = 0 := by
  simp [recompute_claim, computedClaim_barred (s := s) (by simp [State.claimBarred, h])]

theorem monitorIdle_claim_zero {s : State} (h : s.she.claim = 0) : s.monitorIdle.she.claim = 0 := by
  unfold State.monitorIdle
  split
  · exact recompute_claim_zero h
  · exact h

/-- The halted session, and one of id 0, is not offered again at an entry into IDLE (R147, R50). -/
theorem retest_of_halted {s : State} {r : Contract} (hr : s.pvt.record = some r)
    (h : r.session = 0 ∨ r.session = s.pvt.halted) : s.retest = s := by
  have : ¬ (r.session ≠ 0 ∧ r.session ≠ s.pvt.halted) := by omega
  simp_all [State.retest, State.offerSession]

/-- An ENDED session made IDLE under a record whose session is halted: the unit is left IDLE and nothing is claimed
(R146, R147). -/
theorem idleAfterEnd_of_halted {s : State} {r : Contract} (hr : s.pvt.record = some r)
    (h : r.session = 0 ∨ r.session = s.pvt.halted) :
    s.idleAfterEnd.slu = { s.slu with session := .idle } ∧ s.idleAfterEnd.she.claim = 0 := by
  unfold State.idleAfterEnd
  rw [retest_of_halted (r := r) (by simpa using hr) (by simpa using h)]
  exact ⟨by simp, by simpa using recompute_claim_closed (by simp [Session.isOpen])⟩

/-- The end of an OPEN session leaves a state with the session in ENDED and nothing claimed, from which the record
moves into the buffer (R143). -/
theorem endSession_opened {s : State} {o : OpenRecord} {left : Option Nat} (ho : s.slu.session = .opened o left)
    (reason : EndReason) :
    ∃ u : State, s.endSession reason = u.moveToBuffer ∧ u.she.claim = 0 ∧ u.pvt = s.pvt ∧
      u.slu = { s.slu with session := .ended o reason s.clock.stamp } := by
  obtain ⟨o', left', ho', e⟩ | ⟨hn, -⟩ := endSession_cases s reason
  · obtain ⟨rfl, rfl⟩ : o' = o ∧ left' = left := by simpa [ho'] using ho
    refine ⟨_, e, ?_, by simp, by simp⟩
    exact recompute_claim_closed (by simp [Session.isOpen])
  · simp [ho, Session.isOpen] at hn

/-- An occupied buffer leaves a session waiting in ENDED (R146). -/
theorem moveToBuffer_occupied {s : State} {b : Buffer} (h : s.slu.buffer = some b) : s.moveToBuffer = s := by
  simp [State.moveToBuffer, h]

/-- The record of an ENDED session goes into a free buffer with the next sequence, while one is left (R146). -/
theorem moveToBuffer_free {s : State} {o : OpenRecord} {reason : EndReason} {closed : Stamp}
    (he : s.slu.session = .ended o reason closed) (hb : s.slu.buffer = none)
    (hn : newestSeq s.slu.table < lastSequence) :
    s.moveToBuffer = (s.startWrite (s.completeRecord o reason closed s.nextSequence) none).idleAfterEnd := by
  simp [State.moveToBuffer, he, hb, Nat.not_le.mpr hn]

/-- Under a record whose session is halted, nothing is claimed after a move into the buffer (R146, R147). -/
theorem moveToBuffer_claim_zero {s : State} {r : Contract} (hc : s.she.claim = 0) (hr : s.pvt.record = some r)
    (h : r.session = 0 ∨ r.session = s.pvt.halted) : s.moveToBuffer.she.claim = 0 := by
  obtain ⟨_, _, _, -, -, ⟨-, e⟩ | ⟨-, e⟩⟩ | e := moveToBuffer_cases s <;> rw [e]
  · exact (idleAfterEnd_of_halted (r := r) (by simpa using hr) (by simpa using h)).2
  · exact (idleAfterEnd_of_halted (r := r) (by simpa using hr) (by simpa using h)).2
  · exact hc

/-- The end of an OPEN session under a record whose session is halted (R141, R143, R146): nothing is claimed, and the
session's record waits in ENDED or goes into the free buffer. -/
theorem endSession_of_halted {s : State} {r : Contract} (hr : s.pvt.record = some r)
    (h : r.session = 0 ∨ r.session = s.pvt.halted) {o : OpenRecord} {left : Option Nat}
    (ho : s.slu.session = .opened o left) (reason : EndReason) :
    (s.endSession reason).she.claim = 0 ∧
    (∀ b, s.slu.buffer = some b →
      ∃ closed, (s.endSession reason).slu = { s.slu with session := .ended o reason closed }) ∧
    (s.slu.buffer = none → newestSeq s.slu.table < lastSequence →
      (s.endSession reason).slu.session = .idle ∧
      ∃ b, (s.endSession reason).slu.buffer = some b ∧ b.record.id = o.id ∧ b.record.reason = reason ∧
        b.record.seq = newestSeq s.slu.table + 1) := by
  obtain ⟨u, e, hclaim, hpvt, hslu⟩ := endSession_opened ho reason
  rw [e]
  refine ⟨moveToBuffer_claim_zero (r := r) hclaim (by rw [hpvt, hr]) (by rw [hpvt]; exact h), fun b hb => ?_,
    fun hb hn => ?_⟩
  · exact ⟨s.clock.stamp, by rw [moveToBuffer_occupied (b := b) (by rw [hslu, hb]), hslu]⟩
  · rw [moveToBuffer_free (by rw [hslu]) (by rw [hslu, hb]) (by rw [hslu]; exact hn),
      (idleAfterEnd_of_halted (r := r) (by simp [hpvt, hr]) (by simp only [State.startWrite_rest, hpvt]; exact h)).1]
    exact ⟨rfl, _, rfl, rfl, rfl, by simp [State.completeRecord, State.nextSequence, hslu]⟩

/-! ## O35 -/

/-- Settles O35: the sender settles as INLET in `settledInlet`, which keeps the record and all else; the record's
source then halts its session, and no other station's HALT does anything. -/
theorem haltArrives : Obligations.HaltArrives := by
  intro telegram p source s hh hparts hs hc
  have he := exec_haltArrival hh hparts hs hc
  refine ⟨fun r hr hsrc => ?_, fun hother => ?_⟩
  · subst hsrc
    rw [haltArrives_of_source (by simpa using hr)] at he
    refine ⟨_, he, by simp, by simpa using hr, by simp, by simp, by simp, fun hmode => ?_⟩
    have hhandles : ((s.settledInlet r.source).noteHalt r).mdu.mode.handlesSessions = true := by
      simpa using handlesSessions_of_runs hh.1 hmode
    refine ⟨fun hp => ?_, fun o left ho => ?_⟩
    · rw [sessionStops_pending hhandles (by simpa using hp), returnToIdle_slu (by simpa using hp)]
      simp
    · rw [sessionStops_opened hhandles (by simpa using ho)]
      simpa [lastSequence] using
        endSession_of_halted (s := (s.settledInlet r.source).noteHalt r) (r := r) (by simpa using hr)
          (noteHalt_halts _ r) (by simpa using ho) .halted
  · rw [haltArrives_of_other (by simpa using hother)] at he
    exact ⟨_, he, rfl, fun _ hid => entryOf_putEntry_other hid _,
      entryOf_putEntry_same ⟨source, .inlet, 0, none⟩ _⟩

end Sys2Proof.Machine
end

section
/-! PROOF. The derating curve (R58): the curve past every point already reached, the straight line of one segment, and
from the two the value of the curve at every temperature. -/

namespace Sys2Proof.Machine

/-! ## The straight line between two points -/

/-- R58's value between the points `p` and `q`: the floor taken of the whole expression. -/
def segmentCap (p q : Int × Nat) (t : Int) : Int :=
  ((p.2 : Int) * (q.1 - p.1) + ((q.2 : Int) - p.2) * (t - p.1)) / (q.1 - p.1)

theorem segmentCap_left {p q : Int × Nat} (h : p.1 < q.1) : segmentCap p q p.1 = p.2 := by
  have hne : q.1 - p.1 ≠ 0 := by omega
  simp [segmentCap, hne]

/-- The numerator is the caps' mean weighted by the distances to the far points, so the lesser cap bounds it. -/
theorem min_le_segmentCap {p q : Int × Nat} {t : Int} (hp : p.1 ≤ t) (hq : t < q.1) :
    ((min p.2 q.2 : Nat) : Int) ≤ segmentCap p q t := by
  have hleft : ((min p.2 q.2 : Nat) : Int) ≤ p.2 := by omega
  have hright : ((min p.2 q.2 : Nat) : Int) ≤ q.2 := by omega
  rw [segmentCap, Int.le_ediv_iff_mul_le (by omega)]
  nlinarith only [mul_le_mul_of_nonneg_right hleft (show 0 ≤ q.1 - t by omega),
    mul_le_mul_of_nonneg_right hright (show 0 ≤ t - p.1 by omega)]

theorem segmentCap_le_max {p q : Int × Nat} {t : Int} (hp : p.1 ≤ t) (hq : t < q.1) :
    segmentCap p q t ≤ ((max p.2 q.2 : Nat) : Int) := by
  have hleft : (p.2 : Int) ≤ (max p.2 q.2 : Nat) := by omega
  have hright : (q.2 : Int) ≤ (max p.2 q.2 : Nat) := by omega
  refine Int.ediv_le_of_le_mul (by omega) ?_
  nlinarith only [mul_le_mul_of_nonneg_right hleft (show 0 ≤ q.1 - t by omega),
    mul_le_mul_of_nonneg_right hright (show 0 ≤ t - p.1 by omega)]

/-! ## The curve from one point on -/

theorem curveFromPoint_segment {q : Int × Nat} {t : Int} (h : t < q.1) (p : Int × Nat) (rest : List (Int × Nat)) :
    curveFromPoint t p (q :: rest) = (segmentCap p q t).toNat := if_pos h

theorem curveFromPoint_reached {q : Int × Nat} {t : Int} (h : q.1 ≤ t) (p : Int × Nat) (rest : List (Int × Nat)) :
    curveFromPoint t p (q :: rest) = curveFromPoint t q rest := if_neg (by omega)

/-- No point before a reached one counts: on an ascending curve they are reached as well. -/
theorem curveFromPoint_append {q : Int × Nat} {t : Int} {front rest : List (Int × Nat)}
    (hasc : (front ++ q :: rest).Pairwise fun a b => a.1 < b.1) (hq : q.1 ≤ t) (p : Int × Nat) :
    curveFromPoint t p (front ++ q :: rest) = curveFromPoint t q rest := by
  induction front generalizing p with
  | nil => exact curveFromPoint_reached hq p rest
  | cons r front ih =>
    obtain ⟨hfirst, htail⟩ := List.pairwise_cons.1 hasc
    have hr : r.1 < q.1 := hfirst q (by simp)
    exact (curveFromPoint_reached (by omega) p _).trans (ih htail r)

theorem curveFromPoint_self {p : Int × Nat} {rest : List (Int × Nat)}
    (hasc : (p :: rest).Pairwise fun a b => a.1 < b.1) : curveFromPoint p.1 p rest = p.2 := by
  cases rest with
  | nil => rfl
  | cons q rest =>
    have hq : p.1 < q.1 := List.rel_of_pairwise_cons hasc (by simp)
    rw [curveFromPoint_segment hq, segmentCap_left hq, Int.toNat_natCast]

/-! ## The whole curve -/

theorem curveAt_below {p : Int × Nat} {t : Int} (h : t < p.1) (rest : List (Int × Nat)) :
    curveAt (p :: rest) t = p.2 := if_pos h

theorem curveAt_reached {p : Int × Nat} {t : Int} (h : p.1 ≤ t) (rest : List (Int × Nat)) :
    curveAt (p :: rest) t = curveFromPoint t p rest := if_neg (by omega)

theorem curveAt_append {p : Int × Nat} {t : Int} {front rest : List (Int × Nat)}
    (hasc : (front ++ p :: rest).Pairwise fun a b => a.1 < b.1) (hp : p.1 ≤ t) :
    curveAt (front ++ p :: rest) t = curveFromPoint t p rest := by
  cases front with
  | nil => exact curveAt_reached hp rest
  | cons r front =>
    obtain ⟨hfirst, htail⟩ := List.pairwise_cons.1 hasc
    have hr : r.1 < p.1 := hfirst p (by simp)
    exact (curveAt_reached (by omega) _).trans (curveFromPoint_append htail hp r)

theorem curveAt_point {points : List (Int × Nat)} {p : Int × Nat}
    (hasc : points.Pairwise fun a b => a.1 < b.1) (hp : p ∈ points) : curveAt points p.1 = p.2 := by
  obtain ⟨front, rest, rfl⟩ := List.append_of_mem hp
  exact (curveAt_append hasc le_rfl).trans (curveFromPoint_self (List.pairwise_append.1 hasc).2.1)

theorem curveAt_segment {p q : Int × Nat} {t : Int} {front rest : List (Int × Nat)}
    (hasc : (front ++ p :: q :: rest).Pairwise fun a b => a.1 < b.1) (hp : p.1 ≤ t) (hq : t < q.1) :
    (curveAt (front ++ p :: q :: rest) t : Int) = segmentCap p q t := by
  rw [curveAt_append hasc hp, curveFromPoint_segment hq]
  exact Int.toNat_of_nonneg ((Int.natCast_nonneg _).trans (min_le_segmentCap hp hq))

/-! ## O11 -/

/-- Settles O11: a reached point makes the points before it drop out (`curveAt_append`), which leaves the last cap or
one segment, whose value is a weighted mean of its two caps. -/
theorem deratingCurve : Obligations.DeratingCurve := by
  intro points temp hasc
  refine ⟨?below, ?last, fun p hp => curveAt_point hasc hp, ?segment⟩
  case below =>
    rintro p rest rfl hp
    exact curveAt_below hp rest
  case last =>
    rintro front p rfl hp
    exact curveAt_append hasc hp
  case segment =>
    rintro front p q rest rfl hp hq
    have hvalue := curveAt_segment hasc hp hq
    have hmin := min_le_segmentCap hp hq
    have hmax := segmentCap_le_max hp hq
    exact ⟨hvalue, by omega, by omega⟩

end Sys2Proof.Machine
end

section
/-! PROOF. The result of a measurement (R109): the resistance that D_sum and the kept samples give, and its limits at 0
and 10000 kΩ. -/

namespace Sys2Proof.Machine

/-! ## The formula -/

/-- R109 before its limits: Rm·Uinj·4N over D_sum, less the two resistors in series. -/
def riso (rm uinj rc kept : Nat) (dSum : Int) : Int := ((rm * uinj * 4 * kept : Nat) : Int) / dSum - (rc + rm)

theorem resistance_of_nonpos {dSum : Int} (h : dSum ≤ 0) (rm uinj rc kept : Nat) :
    resistance rm uinj rc kept dSum = (.noResponse, 0) := if_pos h

/-- With a D_sum above 0 the result is `riso` under its limits (R109). -/
theorem resistance_of_pos {dSum : Int} (h : 0 < dSum) (rm uinj rc kept : Nat) :
    resistance rm uinj rc kept dSum =
      if riso rm uinj rc kept dSum < 0 then (.valid, 0)
      else if 10000 < riso rm uinj rc kept dSum then (.aboveRange, 10000)
      else (.valid, (riso rm uinj rc kept dSum).toNat) := by
  rw [resistance, if_neg (Int.not_le.2 h), ← Nat.mul_assoc]
  rfl

/-! ## O14 -/

/-- Settles O14: the monitor hands its own fields to R109, and the limits split the values of `riso` into three
ranges. -/
theorem Measurement.resistance : Obligations.Resistance := by
  refine ⟨fun s => rfl, fun rm uinj rc kept dSum => ⟨fun h => resistance_of_nonpos h .., fun h => ?_⟩⟩
  rw [resistance_of_pos h]
  refine ⟨fun hneg => if_pos hneg, fun habove => ?above, fun r hr hle => ?within⟩
  case above =>
    have habove : 10000 < riso rm uinj rc kept dSum := habove
    rw [if_neg (by omega), if_pos habove]
  case within =>
    have hr : riso rm uinj rc kept dSum = r := hr.symm
    rw [hr, if_neg (by omega), if_neg (by omega), Int.toNat_natCast]

end Sys2Proof.Machine
end

section
/-! PROOF. The abort of a measurement by a saturated kept sample (R106): its whole effect on the state. -/

namespace Sys2Proof.Machine

/-! ## The parts of an abort -/

/-- A load of RESULT: the slot takes the payload, or the payload is held while an attempt of RESULT runs (R24). -/
theorem loadResult_eq (s : State) (p : List Byte) :
    s.loadResult p =
      { s with
        pbi.result := if s.pbi.attempting .result then s.pbi.result else some (TxSlot.fresh p),
        pbi.heldResult := if s.pbi.attempting .result then some p else s.pbi.heldResult } := by
  unfold State.loadResult
  split <;> rfl

theorem busVoltage_of_record {s : State} {volts : Nat} (h : s.mfe.record.ustr = some volts) :
    s.busVoltage = volts := by
  simp [State.busVoltage, h]

/-- An input at or beyond an end code gives a saturated sample (R18). -/
theorem saturated_insulationCode {code : Int} (h : code ≤ -2047 ∨ 2047 ≤ code) :
    saturated (insulationCode code) = true := by
  have hend : insulationCode code = -2047 ∨ insulationCode code = 2047 := by
    unfold insulationCode limit
    omega
  simpa [saturated] using hend

/-- A station in HOLDOFF does not enter DORMANT (R173). -/
theorem dormantTest_of_holdoff {before s : State} {left : Nat} (h : s.imon.seq = .holdoff left) :
    State.dormantTest before s = s := by
  have : s.dormantReady = false := by simp [State.dormantReady, h]
  simp [State.dormantTest, this]

/-! ## The abort -/

/-- The seconds of a HOLDOFF are fixed by the draw made at its entry (R101). -/
theorem abortMeasurement_seq (s : State) :
    s.abortMeasurement.imon.seq = .holdoff ((nextRandom s.pbi.random % 8 + 1) * 1000000) := by
  simp [State.abortMeasurement, State.enterHoldoff, State.loadOwnResult, loadResult_eq, State.draw, State.clearSums]

/-- A sample in INJECTING is taken, and the DORMANT entry is tested after it (R105, R173). -/
theorem exec_insulationSample {s : State} {phase : Phase} {index : Nat} (h : s.imon.seq = .injecting phase index)
    (code : Int) :
    exec (.insulationSample code) s =
      .next (State.dormantTest s (s.takeSample phase (index + 1) (insulationCode code))) := by
  change execInsulationSample code s = _
  simp [execInsulationSample, h]

/-- A saturated sample past the crop aborts the measurement (R106). -/
theorem takeSample_saturated {s : State} {index : Nat} {code : Int} (hkept : s.mdu.cfg.crop < index)
    (hsat : saturated code = true) (phase : Phase) : s.takeSample phase index code = s.abortMeasurement := by
  rw [State.takeSample, if_neg (Nat.not_le.2 hkept), if_pos hsat]

/-! ## O16 -/

/-- Settles O16: past the crop a sample at an end code aborts, and the HOLDOFF it begins shuts DORMANT out; the abort
is the load of INTERFERED into RESULT and the entry into HOLDOFF with its draw. -/
theorem saturatedSampleAborts : Obligations.SaturatedSampleAborts := by
  intro code phase index volts s hseq hkept hcode hvolts
  have hexec : exec (.insulationSample code) s = .next s.abortMeasurement := by
    rw [exec_insulationSample hseq, takeSample_saturated hkept (saturated_insulationCode hcode),
      dormantTest_of_holdoff (abortMeasurement_seq s)]
  have hbus : s.clearSums.busVoltage = volts := busVoltage_of_record hvolts
  refine ⟨s.abortMeasurement.imon.timerFresh, hexec.trans ?_⟩
  rw [State.abortMeasurement, State.loadOwnResult, hbus, loadResult_eq]
  rfl

end Sys2Proof.Machine
end

section
/-! PROOF. FLAG_CLEAR (R160 to R163): the arrival settles its sender and is handed to the fault unit, which clears the
named flags whose condition has ended; a clear makes the opening test again and, when INJECTOR is among the flags,
resets the NO_RESPONSE count and may start the sequencer. -/

namespace Sys2Proof.Machine

/-! ## The arrival -/

/-- The state in which a telegram is passed on: it has ended on the bus, its sender's entry is settled, and it is
reported as heard (R32, R36, R40). -/
def State.passedOn (rx : Received) (s : State) : State := (s.telegramEnds.settleEntry rx).heard rx.kind

/-- A telegram heard touches the dormant timer alone in the mode unit, and that to restart it in RUN (R172). -/
theorem heard_mdu (s : State) (k : Kind) :
    (s.heard k).mdu =
      { s.mdu with
        dormantTimer := if k.wakeful ∧ s.mdu.mode = .run then .running s.dormantTime else s.mdu.dormantTimer } := by
  unfold State.heard
  split <;> rfl

@[simp] theorem State.passedOn_rest (s : State) (rx : Received) :
    (s.passedOn rx).mfe = s.mfe ∧ (s.passedOn rx).clock = s.clock ∧ (s.passedOn rx).thu = s.thu ∧
    (s.passedOn rx).she = s.she ∧ (s.passedOn rx).imon = s.imon ∧ (s.passedOn rx).slu = s.slu ∧
    (s.passedOn rx).flu = s.flu ∧ (s.passedOn rx).store = s.store ∧
    (s.passedOn rx).pbi.random = s.pbi.random ∧ (s.passedOn rx).pbi.logReply = s.pbi.logReply ∧
    (s.passedOn rx).mdu.mode = s.mdu.mode ∧ (s.passedOn rx).mdu.station = s.mdu.station ∧
    (s.passedOn rx).mdu.phase = s.mdu.phase ∧ (s.passedOn rx).mdu.cfg = s.mdu.cfg := by
  simp [State.passedOn, heard_mdu]

/-- After a telegram that restarts the dormant timer in RUN, the DORMANT entry test finds it running (R172, R173). -/
theorem dormantTest_passedOn {before s t : State} {rx : Received} (hk : rx.kind.wakeful = true)
    (h : t.mdu = (s.passedOn rx).mdu) : State.dormantTest before t = t := by
  have : t.dormantReady = false := by
    by_cases hrun : s.mdu.mode = .run <;> simp [State.dormantReady, h, State.passedOn, heard_mdu, hk, hrun]
  simp [State.dormantTest, this]

/-- An arrival at a stopped interface changes nothing (R21). -/
theorem arrive_stopped {s : State} (h : s.mdu.mode.runs = false) (k : Kind) (t : List Byte)
    (pass : Received → State → State) : s.arrive k t pass = s := by
  rw [State.arrive, receive_stopped k t pass h]
  simp [State.dormantTest]

/-! ## The flags judged -/

/-- The flags that a FLAG_CLEAR names to the station: those of its set when the target is the own id or ALL, and
otherwise none (R160). -/
def namedFlags (station : Nat) (p : List Byte) : FlagSet :=
  if rd8 p 0 = station ∨ rd8 p 0 = 255 then FlagSet.ofCode (rd16 p 1) else 0

theorem namedFlags_of_target {station : Nat} {p : List Byte} (h : rd8 p 0 = station ∨ rd8 p 0 = 255) :
    namedFlags station p = FlagSet.ofCode (rd16 p 1) := if_pos h

theorem namedFlags_of_other {station : Nat} {p : List Byte} (hown : rd8 p 0 ≠ station) (hall : rd8 p 0 ≠ 255) :
    namedFlags station p = 0 := if_neg (by simp [hown, hall])

theorem mem_allFlags (f : Flag) : f ∈ allFlags := by cases f <;> decide

/-- R160: a flag is cleared when it is named and latched and its condition has ended. -/
theorem mem_clearable {named : FlagSet} {s : State} {f : Flag} :
    f ∈ s.clearable named ↔ FlagSet.has named f = true ∧ s.latched f = true ∧ s.holdsFlag f = false := by
  simp [State.clearable, mem_allFlags, and_assoc]

/-- The condition of CONTRACT_CONFLICT holds under a record that is neither HELD nor RESOLVING, and not in NONE
(R161). -/
theorem holdsFlag_conflict (s : State) :
    s.holdsFlag .contractConflict =
      (s.pvt.record.map fun r => r.status != .held && r.status != .resolving).getD false := by
  cases hrec : s.pvt.record with
  | none => simp [State.holdsFlag, hrec]
  | some r => cases hst : r.status <;> simp [State.holdsFlag, hrec, hst]

/-- A FLAG_CLEAR that names no flag clears none. -/
theorem clearFlags_none (s : State) : s.clearFlags 0 = s := by
  have : s.clearable 0 = [] := by simp [State.clearable, FlagSet.has]
  rw [State.clearFlags, this]

/-- A FLAG_CLEAR at the fault unit clears among the flags it names to the station; for another target there are
none (R160). -/
theorem peerFlagClear_eq (rx : Received) (s : State) :
    s.peerFlagClear rx = s.clearFlags (namedFlags s.mdu.station rx.payload) := by
  unfold State.peerFlagClear namedFlags
  split
  · rfl
  · exact (clearFlags_none s).symm

/-! ## The fault unit with some flags taken out -/

/-- Some flags taken out, with ALERT driven by those left (R158, R160). -/
def State.dropFlags (l : List Flag) (s : State) : State :=
  { s with flu.flags := FlagSet.removeAll s.flu.flags l }.updateAlert

@[simp] theorem State.dropFlags_rest (s : State) (l : List Flag) :
    (s.dropFlags l).mdu = s.mdu ∧ (s.dropFlags l).mfe = s.mfe ∧ (s.dropFlags l).pbi = s.pbi ∧
    (s.dropFlags l).pvt = s.pvt ∧ (s.dropFlags l).clock = s.clock ∧ (s.dropFlags l).imon = s.imon ∧
    (s.dropFlags l).slu = s.slu ∧ (s.dropFlags l).store = s.store := by
  simp [State.dropFlags]

theorem dropFlags_latched (s : State) (l : List Flag) (f : Flag) :
    (s.dropFlags l).latched f = (s.latched f && !decide (f ∈ l)) := by
  simp [State.dropFlags, State.latched, has_removeAll]

/-- The invariant of ALERT in the terms of R158. -/
theorem alertSafe_iff (s : State) : s.AlertSafe ↔ s.flu.alert = s.alertLevel := by
  have hempty : s.flu.flags &&& 4095#12 = s.flu.flags := BitVec.and_allOnes
  cases hm : s.mdu.mode <;> simp [State.AlertSafe, State.alertLevel, State.maskInForce, hm, hempty]

/-- Where the blocks run, ALERT follows the flags outside the mask in force, which is empty in CONFIG_HOLD (R157). -/
theorem alertSafe_running {s : State} (hruns : s.mdu.mode.runs = true) :
    s.AlertSafe ↔
      s.flu.alert =
        if s.mdu.mode = .configHold then s.flu.flags != 0 else s.flu.flags &&& ~~~ s.mdu.cfg.alertMask != 0 := by
  cases hm : s.mdu.mode with
  | start => simp [hm, Mode.runs] at hruns
  | _ => simp [State.AlertSafe, hm]

/-- A state whose mode, mask and fault unit are another's has the other's ALERT level. -/
theorem alertSafe_congr {s t : State} (hmode : t.mdu.mode = s.mdu.mode) (hcfg : t.mdu.cfg = s.mdu.cfg)
    (hflu : t.flu = s.flu) (h : s.AlertSafe) : t.AlertSafe := by
  simpa [State.AlertSafe, hmode, hcfg, hflu] using h

theorem dropFlags_alertSafe (s : State) (l : List Flag) : (s.dropFlags l).AlertSafe := by
  rw [alertSafe_iff]
  rfl

/-! ## The opening test -/

/-- The opening test's conditions one by one (R138). -/
theorem mayOpen_iff (s : State) :
    s.mayOpen = true ↔
      s.mdu.mode = .run ∧ s.mfe.line = .good ∧ s.imon.clearance = true ∧ s.latched .dupId = false ∧
        s.latched .thermSensor = false ∧ s.latched .frontEnd = false := by
  simp [State.mayOpen, and_assoc]

/-- A PENDING session whose opening test passes opens, with the flags latched at its opening (R138, R144). -/
theorem openingTest_opens {s : State} {id left : Nat} (hp : s.slu.session = .pending id left)
    (hm : s.mayOpen = true) : Opens id s s.openingTest := by
  simp [State.openingTest, hp, hm, Opens, State.openSession, State.newRecord, Clock.stamp, State.meterOpens]

/-- The conditions are read of four values alone. -/
theorem mayOpen_congr {s t : State} (hmdu : t.mdu = s.mdu) (hline : t.mfe.line = s.mfe.line)
    (hclear : t.imon.clearance = s.imon.clearance) (hflu : t.flu = s.flu) : t.mayOpen = s.mayOpen := by
  simp [State.mayOpen, State.latched, hmdu, hline, hclear, hflu]

theorem openingTest_of_not_mayOpen {s : State} (hm : s.mayOpen = false) : s.openingTest = s := by
  obtain ⟨_, _, -, hopen, -⟩ | e := openingTest_cases s
  · simp [hm] at hopen
  · exact e

theorem openingTest_of_not_pending {s : State} (hp : s.slu.session.isPending = false) : s.openingTest = s := by
  obtain ⟨_, _, hpend, -, -⟩ | e := openingTest_cases s
  · simp [hpend, Session.isPending] at hp
  · exact e

/-- An opening needs the clearance, so the test leaves a PENDING session without one as it was (R138). -/
theorem openingTest_pending_unclear (s : State) :
    (s.openingTest.slu.session.isPending = true ∧ s.imon.clearance = false) ↔
      (s.slu.session.isPending = true ∧ s.imon.clearance = false) := by
  by_cases hm : s.mayOpen = true
  · obtain ⟨-, -, hclear, -⟩ := (mayOpen_iff s).1 hm
    simp [hclear]
  · rw [openingTest_of_not_mayOpen (by simpa using hm)]

/-! ## The sequencer -/

@[simp] theorem State.leaveOff_kept (s : State) :
    s.leaveOff.mfe.line = s.mfe.line ∧ s.leaveOff.imon.clearance = s.imon.clearance ∧
    s.leaveOff.imon.noResponse = s.imon.noResponse ∧ s.leaveOff.pbi.logReply = s.pbi.logReply := by
  obtain ⟨-, -, _, e⟩ | e := leaveOff_cases s <;> simp [e]

/-- An OFF sequencer that nothing bars goes to WAITING (R96). -/
theorem leaveOff_leaves {s : State} (hoff : s.imon.seq = .off) (hfree : s.sequencerBarred = false) :
    LeavesOff s s.leaveOff := by
  by_cases hprompt : s.slu.session.isPending = true ∧ s.imon.clearance = false <;>
    simp [LeavesOff, State.leaveOff, hoff, hfree, hprompt, State.promptDelay, State.enterWaiting,
      State.spreadInterval, nextRandom]

/-- A sequencer that is not OFF, or is held there, stays (R96). -/
theorem leaveOff_stays {s : State} (h : s.imon.seq ≠ .off ∨ s.sequencerBarred = true) : s.leaveOff = s := by
  obtain ⟨hoff, hfree, -⟩ | e := leaveOff_cases s
  · simp [hoff, hfree] at h
  · exact e

/-- The sequencer's conditions are read of the mode unit and the fault unit alone (R96). -/
theorem sequencerBarred_congr {s t : State} (hmdu : t.mdu = s.mdu) (hflu : t.flu = s.flu) :
    t.sequencerBarred = s.sequencerBarred := by
  simp [State.sequencerBarred, State.latched, hmdu, hflu]

/-- Leaving OFF after the opening test is leaving it from the state before the test: a session that opens had its
clearance, so that the delay of R96 is the same. -/
theorem leavesOff_openingTest (s t : State) : LeavesOff s.openingTest t ↔ LeavesOff s t := by
  simp [LeavesOff, openingTest_pending_unclear]

@[simp] theorem State.injectorCleared_rest (s : State) :
    s.injectorCleared.mdu = s.mdu ∧ s.injectorCleared.mfe.line = s.mfe.line ∧ s.injectorCleared.pvt = s.pvt ∧
    s.injectorCleared.pbi.logReply = s.pbi.logReply ∧ s.injectorCleared.clock = s.clock ∧
    s.injectorCleared.imon.clearance = s.imon.clearance ∧ s.injectorCleared.imon.noResponse = 0 ∧
    s.injectorCleared.emt = s.emt ∧ s.injectorCleared.slu = s.slu ∧ s.injectorCleared.flu = s.flu ∧
    s.injectorCleared.store = s.store := by
  simp [State.injectorCleared]

theorem injectorCleared_leaves {s : State} (hoff : s.imon.seq = .off) (hfree : s.sequencerBarred = false) :
    LeavesOff s s.injectorCleared :=
  leaveOff_leaves (s := { s with imon.noResponse := 0 }) hoff hfree

theorem injectorCleared_stays {s : State} (h : s.imon.seq ≠ .off ∨ s.sequencerBarred = true) :
    s.injectorCleared = { s with imon.noResponse := 0 } :=
  leaveOff_stays (s := { s with imon.noResponse := 0 }) h

/-! ## The clear as a whole -/

/-- What a FLAG_CLEAR does: nothing when it clears no flag; otherwise the flags go and the opening test is made, and
with INJECTOR among them the insulation monitor hears of it (R160, R163). -/
theorem clearFlags_cases (named : FlagSet) (s : State) :
    (s.clearable named = [] ∧ s.clearFlags named = s) ∨
    (.injector ∉ s.clearable named ∧ s.clearFlags named = (s.dropFlags (s.clearable named)).openingTest) ∨
    (.injector ∈ s.clearable named ∧
      s.clearFlags named = (s.dropFlags (s.clearable named)).openingTest.injectorCleared) := by
  unfold State.clearFlags
  split
  · next h => exact .inl ⟨h, rfl⟩
  · split
    · exact .inr (.inr ⟨‹_›, rfl⟩)
    · exact .inr (.inl ⟨‹_›, rfl⟩)

@[simp] theorem State.clearFlags_rest (s : State) (named : FlagSet) :
    (s.clearFlags named).mdu = s.mdu ∧ (s.clearFlags named).mfe.line = s.mfe.line ∧
    (s.clearFlags named).pvt = s.pvt ∧ (s.clearFlags named).pbi.logReply = s.pbi.logReply ∧
    (s.clearFlags named).clock = s.clock ∧ (s.clearFlags named).imon.clearance = s.imon.clearance ∧
    (s.clearFlags named).store = s.store := by
  obtain ⟨-, e⟩ | ⟨-, e⟩ | ⟨-, e⟩ := clearFlags_cases named s <;> simp [e]

/-- The fault unit, the session unit and the energy meter after a clear are those of the flags taken out and the
opening test: the insulation monitor's part does not touch them. -/
theorem clearFlags_units (named : FlagSet) (s : State) :
    (s.clearable named = [] ∧ s.clearFlags named = s) ∨
    ((s.clearFlags named).flu = (s.dropFlags (s.clearable named)).flu ∧
      (s.clearFlags named).slu = (s.dropFlags (s.clearable named)).openingTest.slu ∧
      (s.clearFlags named).emt = (s.dropFlags (s.clearable named)).openingTest.emt) := by
  obtain h | ⟨-, e⟩ | ⟨-, e⟩ := clearFlags_cases named s
  · exact .inl h
  · exact .inr (by simp [e])
  · exact .inr (by simp [e])

/-- A flag stays latched unless it is named and its condition has ended (R160). -/
theorem clearFlags_latched (named : FlagSet) (s : State) (f : Flag) :
    (s.clearFlags named).latched f = (s.latched f && !(FlagSet.has named f && !s.holdsFlag f)) := by
  have hdrop : (s.clearFlags named).latched f = (s.latched f && !decide (f ∈ s.clearable named)) := by
    obtain ⟨hnil, e⟩ | ⟨e, -, -⟩ := clearFlags_units named s
    · simp [e, hnil]
    · rw [← dropFlags_latched]
      simp [State.latched, e]
  rw [hdrop]
  cases hl : s.latched f <;> simp [mem_clearable, hl]

theorem clearFlags_alertSafe {s : State} (h : s.AlertSafe) (named : FlagSet) : (s.clearFlags named).AlertSafe := by
  obtain ⟨-, e⟩ | ⟨e, -, -⟩ := clearFlags_units named s
  · rwa [e]
  · exact alertSafe_congr (by simp) (by simp) e (dropFlags_alertSafe s (s.clearable named))

/-- INJECTOR is cleared exactly when it was latched and is not any more. -/
theorem injector_mem_clearable {named : FlagSet} {s : State} :
    .injector ∈ s.clearable named ↔
      s.latched .injector = true ∧ (s.clearFlags named).latched .injector = false := by
  rw [clearFlags_latched, mem_clearable]
  cases hl : s.latched .injector <;> simp [State.holdsFlag]

/-! ## The insulation monitor after a clear -/

/-- Without a clear of INJECTOR the insulation monitor and the random sequence stay (R163). -/
theorem clearFlags_monitor_stays {named : FlagSet} {s : State} (h : .injector ∉ s.clearable named) :
    (s.clearFlags named).imon = s.imon ∧ (s.clearFlags named).pbi.random = s.pbi.random := by
  obtain ⟨-, e⟩ | ⟨-, e⟩ | ⟨hin, -⟩ := clearFlags_cases named s
  · simp [e]
  · simp [e]
  · exact absurd hin h

/-- A clear of INJECTOR is the flags taken out, the opening test, the count at 0 and the sequencer's own test. -/
theorem clearFlags_injector {named : FlagSet} {s : State} (h : .injector ∈ s.clearable named) :
    s.clearFlags named = (s.dropFlags (s.clearable named)).openingTest.injectorCleared := by
  obtain ⟨hnil, -⟩ | ⟨hout, -⟩ | ⟨-, e⟩ := clearFlags_cases named s
  · simp [hnil] at h
  · exact absurd h hout
  · exact e

/-- With INJECTOR cleared, the mode, DUP_ID and CONFIG alone can hold the sequencer OFF (R96, R162). -/
theorem sequencerBarred_dropFlags {named : FlagSet} {s : State} (h : .injector ∈ s.clearable named) :
    (s.dropFlags (s.clearable named)).sequencerBarred =
      (s.mdu.mode != .run || s.latched .dupId || s.latched .config) := by
  have hdup : .dupId ∉ s.clearable named := by simp [mem_clearable, State.holdsFlag]
  have hcfg : .config ∉ s.clearable named := by simp [mem_clearable, State.holdsFlag]
  simp [State.sequencerBarred, dropFlags_latched, h, hdup, hcfg]

theorem clearFlags_leaves {named : FlagSet} {s : State} (h : .injector ∈ s.clearable named)
    (hrun : s.mdu.mode = .run) (hoff : s.imon.seq = .off) (hdup : s.latched .dupId = false)
    (hcfg : s.latched .config = false) : LeavesOff s (s.clearFlags named) := by
  have hfree : (s.dropFlags (s.clearable named)).openingTest.sequencerBarred = false := by
    rw [sequencerBarred_congr (s := s.dropFlags (s.clearable named)) (by simp) (by simp),
      sequencerBarred_dropFlags h]
    simp [hrun, hdup, hcfg]
  have hleaves := (leavesOff_openingTest _ _).1 (injectorCleared_leaves (by simpa using hoff) hfree)
  rw [clearFlags_injector h]
  simpa [LeavesOff] using hleaves

/-- A clear of INJECTOR from which the sequencer does not start makes the NO_RESPONSE count 0, and no more (R111). -/
theorem clearFlags_counts {named : FlagSet} {s : State} (h : .injector ∈ s.clearable named)
    (hheld : s.mdu.mode ≠ .run ∨ s.imon.seq ≠ .off ∨ s.latched .dupId = true ∨ s.latched .config = true) :
    (s.clearFlags named).imon = { s.imon with noResponse := 0 } ∧
    (s.clearFlags named).pbi.random = s.pbi.random := by
  have hstays : (s.dropFlags (s.clearable named)).openingTest.imon.seq ≠ .off ∨
      (s.dropFlags (s.clearable named)).openingTest.sequencerBarred = true := by
    rw [sequencerBarred_congr (s := s.dropFlags (s.clearable named)) (by simp) (by simp),
      sequencerBarred_dropFlags h]
    simp only [State.openingTest_rest, State.dropFlags_rest, Bool.or_eq_true, bne_iff_ne]
    tauto
  rw [clearFlags_injector h, injectorCleared_stays hstays]
  simp

/-! ## The session unit after a clear -/

/-- What the opening test of a clear reads is what stands after the clear. -/
theorem mayOpen_clearFlags {named : FlagSet} {s : State}
    (hflu : (s.clearFlags named).flu = (s.dropFlags (s.clearable named)).flu) :
    (s.dropFlags (s.clearable named)).mayOpen = (s.clearFlags named).mayOpen :=
  mayOpen_congr (by simp) (by simp) (by simp) hflu.symm

/-- A PENDING session that the clear lets pass its opening test opens: before the clear it did not pass (R138). -/
theorem clearFlags_opens {named : FlagSet} {s : State} {id left : Nat} (hsafe : s.OpeningSafe)
    (hp : s.slu.session = .pending id left) (hm : (s.clearFlags named).mayOpen = true) :
    Opens id s (s.clearFlags named) := by
  obtain ⟨-, e⟩ | ⟨hflu, hslu, hemt⟩ := clearFlags_units named s
  · have : s.mayOpen = false := hsafe (by simp [hp, Session.isPending])
    simp [e, this] at hm
  · have hopens := openingTest_opens (s := s.dropFlags (s.clearable named)) (by simpa using hp)
      ((mayOpen_clearFlags hflu).trans hm)
    simpa [Opens, hflu, hslu, hemt] using hopens

/-- A session that is not PENDING, or whose opening test does not pass after the clear, stays (R138). -/
theorem clearFlags_slu_stays {named : FlagSet} {s : State}
    (h : s.slu.session.isPending = false ∨ (s.clearFlags named).mayOpen = false) :
    (s.clearFlags named).slu = s.slu := by
  obtain ⟨-, e⟩ | ⟨hflu, hslu, -⟩ := clearFlags_units named s
  · rw [e]
  · have hkeep : (s.dropFlags (s.clearable named)).openingTest = s.dropFlags (s.clearable named) := by
      obtain hp | hm := h
      · exact openingTest_of_not_pending (by simpa using hp)
      · exact openingTest_of_not_mayOpen ((mayOpen_clearFlags hflu).trans hm)
    rw [hslu, hkeep]
    simp

/-! ## O39 -/

/-- A FLAG_CLEAR that the station hears: its sender is settled, and the flags it names to the station are judged
(R36, R160). -/
theorem exec_flagClearArrival {s : State} {source : Nat} {t p : List Byte} (hh : s.Hears)
    (hs : source ≠ s.mdu.station)
    (hc : checkTelegram t = some { source := source, kind := .flagClear, payload := p }) :
    exec (.flagClearArrival t) s =
      .next ((s.passedOn { source := source, kind := .flagClear, payload := p }).clearFlags
        (namedFlags s.mdu.station p)) := by
  have hown : (s.passedOn { source := source, kind := .flagClear, payload := p }).mdu.station = s.mdu.station := by
    simp
  change Host.Outcome.next (State.dormantTest s (s.receive .flagClear t State.peerFlagClear)) = _
  rw [receive_of_hears State.peerFlagClear hh hc hs, ← State.passedOn, peerFlagClear_eq, hown,
    dormantTest_passedOn (s := s) (rx := { source := source, kind := .flagClear, payload := p }) rfl (by simp)]

/-- Settles O39: the telegram is passed on in `passedOn`, which keeps all that the statement speaks of but the view;
the clear is then judged flag by flag, at the insulation monitor and at the session unit. -/
theorem flagClear : Obligations.FlagClear := by
  refine ⟨fun telegram s hstop => congrArg Host.Outcome.next (arrive_stopped hstop _ _ _), ?_⟩
  intro telegram p source s hh hs hc
  have hexec := exec_flagClearArrival hh hs hc
  generalize { source := source, kind := .flagClear, payload := p : Received } = rx at hexec
  generalize hnamed : namedFlags s.mdu.station p = named at hexec
  have hlatched : ∀ f, (s.passedOn rx).latched f = s.latched f := by simp [State.latched]
  have hmay := mayOpen_iff ((s.passedOn rx).clearFlags named)
  simp only [State.clearFlags_rest, State.passedOn_rest] at hmay
  refine ⟨_, hexec, fun hown hall => ?otherTarget, fun hwas hgone => ?injectorCleared, fun hsame => ?injectorKept,
    fun hsafe id left hp => ⟨fun hpass => ?opens, fun hfail => ?staysPending⟩, fun hp => ?notPending,
    fun htarget => ⟨fun f => ?flags, fun halert => ?alert⟩, by simp, by simp, by simp, by simp⟩
  case otherTarget =>
    rw [← hnamed, namedFlags_of_other hown hall, clearFlags_none]
    simp
  case injectorCleared =>
    have hin := injector_mem_clearable.2 ⟨(hlatched _).trans hwas, hgone⟩
    refine ⟨by simp [clearFlags_injector hin], fun hrun hoff hdup hcfg => ?_, fun hheld => ?_⟩
    · simpa [LeavesOff] using
        clearFlags_leaves hin (by simpa using hrun) (by simpa using hoff) (by simpa [hlatched] using hdup)
          (by simpa [hlatched] using hcfg)
    · simpa using clearFlags_counts hin (by simpa [hlatched] using hheld)
  case injectorKept =>
    have hout : .injector ∉ (s.passedOn rx).clearable named := by
      rw [injector_mem_clearable, hlatched, hsame]
      simp
    simpa using clearFlags_monitor_stays hout
  case opens =>
    have hsafe' : (s.passedOn rx).OpeningSafe := by
      simpa [State.OpeningSafe, State.mayOpen, hlatched] using hsafe
    simpa [Opens] using clearFlags_opens hsafe' (by simpa using hp) (hmay.2 hpass)
  case staysPending =>
    simpa using clearFlags_slu_stays (.inr (Bool.eq_false_iff.2 fun hpass => hfail (hmay.1 hpass)))
  case notPending =>
    simpa using clearFlags_slu_stays (named := named) (s := s.passedOn rx) (.inl (by simpa using hp))
  case flags =>
    rw [clearFlags_latched, ← hnamed, namedFlags_of_target htarget, hlatched]
    cases f with
    | contractConflict =>
      cases hrec : (s.passedOn rx).pvt.record <;> simp [holdsFlag_conflict, hrec, FlagSet.has, FlagSet.ofCode]
    | _ => simp [State.holdsFlag, FlagSet.has, FlagSet.ofCode]
  case alert =>
    have hafter := clearFlags_alertSafe
      (alertSafe_congr (t := s.passedOn rx) (by simp) (by simp) (by simp) halert) named
    simpa using (alertSafe_running (by simpa using hh.1)).1 hafter

end Sys2Proof.Machine
end

section
/-! PROOF. What a step can do, said once: every command's effect is a sequence of changes, each of them an operation of
one block with the reports that belong to it. An invariant that every change keeps is kept by every step but the two
resets. -/

namespace Sys2Proof.Machine

/-! ## Changes that no invariant reads -/

/-- What the invariants other than the sequencer's read of a state stays as it is, the own-phase limit apart. -/
structure Aside (s t : State) : Prop where
  mode : t.mdu.mode = s.mdu.mode
  cfg : t.mdu.cfg = s.mdu.cfg
  station : t.mdu.station = s.mdu.station
  phase : t.mdu.phase = s.mdu.phase
  line : t.mfe.line = s.mfe.line
  view : t.pvt.view = s.pvt.view
  heater : t.thu.heater = s.thu.heater
  inForce : t.thu.inForce = s.thu.inForce
  step : t.thu.step = s.thu.step
  htr : t.thu.htr = s.thu.htr
  demand : t.she.demand = s.she.demand
  wanting : t.she.wanting = s.she.wanting
  claim : t.she.claim = s.she.claim
  claimTx : t.she.claimTx = s.she.claimTx
  drawn : t.she.drawn = s.she.drawn
  dutyApplied : t.she.dutyApplied = s.she.dutyApplied
  phApplied : t.she.phApplied = s.she.phApplied
  idcSet : t.she.idcSet = s.she.idcSet
  chgEn : t.she.chgEn = s.she.chgEn
  iRef : t.she.iRef = s.she.iRef
  insulation : t.imon.insulation = s.imon.insulation
  clearance : t.imon.clearance = s.imon.clearance
  active : t.emt.active = s.emt.active
  isOpen : t.slu.session.isOpen = s.slu.session.isOpen
  isPending : t.slu.session.isPending = s.slu.session.isPending
  buffer : t.slu.buffer.map Buffer.record = s.slu.buffer.map Buffer.record
  table : t.slu.table = s.slu.table
  flu : t.flu = s.flu
  store : t.store = s.store

/-- What the invariants other than the sequencer's read of a state stays as it is. -/
structure Quiet (s t : State) : Prop extends Aside s t where
  limit : t.ownLimit = s.ownLimit

theorem Aside.refl (s : State) : Aside s s := by constructor <;> rfl

/-- The sequencer stands as it did, and what holds it OFF is as it was (R94, R96, R104). -/
theorem injectionSafe_congr {s t : State} (hseq : t.imon.seq = s.imon.seq) (hsw : t.imon.isoSw = s.imon.isoSw)
    (hflag : t.imon.injecting = s.imon.injecting) (hbar : t.sequencerBarred = true → s.sequencerBarred = true)
    (h : s.InjectionSafe) : t.InjectionSafe := by
  obtain ⟨hs, hf, hoff⟩ := h
  exact ⟨by rw [hsw, hseq, hs], by rw [hflag, hseq, hf], fun hb => by rw [hseq, hoff (hbar hb)]⟩

theorem Aside.barred {s t : State} (h : Aside s t) : t.sequencerBarred = s.sequencerBarred := by
  simp [State.sequencerBarred, State.latched, h.mode, h.flu]

/-! ## The changes -/

/-- The OPEN session ended, with its reports to the energy meter, the thermal unit and the share engine; its record has
not moved yet (R143). -/
def State.sessionDeparts (reason : EndReason) (s : State) : State :=
  match s.slu.session with
  | .opened r _ => ({ s with slu.session := .ended r reason s.clock.stamp }.meterDeparts).applyDuty.shareLeavesOpen
  | _ => s

/-- The entry into PENDING before its opening test (R137). -/
def State.goPending (id : Nat) (s : State) : State :=
  ({ s with slu.session := .pending id pendingTime }.recompute).monitorPending

/-- The insulation state made FAULT, before its latch and its reports (R115). -/
def State.faultEntered (s : State) : State := { s with imon.insulation := .fault }

/-- The entry into FAULT up to the departure of the session (R115). -/
def State.isoFaultDeparts (s : State) : State :=
  State.sessionDeparts .isoFault { (s.faultEntered.latch .isoFault) with imon.clearance := false }

/-- The entry into LISTENING up to the examination of held PWR_FAIL (R166, R170, R174). -/
def State.beginListening (s : State) : State :=
  { s with mdu.mode := .listening, mdu.settling := none, mdu.listening := 0
   }.startConverters.startBus.startBeacons.updateAlert.modeReport

/-- A PWR_FAIL assertion at the mode unit, the share engine, the thermal unit and the insulation monitor (R171, R93,
R71, R96). -/
def State.powerHolds (s : State) : State :=
  { s with mdu.mode := .powerHold, mdu.dormantTimer := .stopped }.shareShutdown.thermalShutdown.sequencerOff

/-- A PWR_FAIL assertion up to the departure of an OPEN session (R171, R152). -/
def State.powerDeparts (s : State) : State := s.powerHolds.sessionDeparts .powerFail

/-- The flags that hold the sequencer OFF (R96). -/
def Flag.bars : Flag → Bool
  | .injector => true
  | .dupId => true
  | .config => true
  | _ => false

/-- A change inside a mode that leaves the sequencer's conditions as they are. -/
inductive Move : State → State → Prop where
  | quiet {s t : State} (h : Quiet s t) (hi : s.InjectionSafe → t.InjectionSafe) : Move s t
  | recompute {s t : State} (h : Aside s t) (himon : t.imon = s.imon) : Move s t.recompute
  | raise {s t : State} (h : Aside s t) (himon : t.imon = s.imon) (f : Flag) (hf : f.bars = false) :
      Move s (t.raiseFlag f)
  | applyDuty (s : State) : Move s s.applyDuty
  | convert (s : State) : Move s s.convert
  | setDemand (s : State) (d : Nat) : Move s (s.setDemand d)
  | periodClaim (s : State) (view : List Entry) : Move s (s.periodClaim view)
  | beaconSent (s : State) (claim : Nat) : Move s (s.beaconSent claim)
  | setHeater (s : State) (h : Heater) : Move s (s.setHeater h)
  | thermalHold (s : State) : Move s s.thermalHold.thermalUpdate
  | stepBoundary (s : State) : Move s s.stepBoundary
  | line (s : State) (m : FrontEnd) : Move s ({ s with mfe := m }.lineReport s.mfe.line)
  | openSession {s : State} (hm : s.mayOpen = true) (hp : s.slu.session.isPending = true) (id : Nat) :
      Move s (s.openSession id)
  | departs (s : State) (reason : EndReason) : Move s (s.sessionDeparts reason)
  | idle {s : State} (h : s.slu.session.isOpen = false) : Move s { s with slu.session := .idle }
  | meterIdles {s : State} (h : s.slu.session.isOpen = false) : Move s s.meterIdles
  | goPending {s : State} (h : s.slu.session.isOpen = false) (id : Nat) : Move s (s.goPending id)
  | clearanceOff (s : State) : Move s { s with imon.clearance := false }
  | clearanceOn {s : State} (h : s.imon.insulation ≠ .fault) :
      Move s (State.openingTest { s with imon.clearance := true })
  | insulation {i : Insulation} (s : State) (h : i ≠ .fault) : Move s { s with imon.insulation := i }
  | isoFault (s : State) : Move s s.isoFaultDeparts
  | newWrite {s : State} (r : SessionRecord) (hb : s.slu.buffer = none)
      (hn : newestSeq s.slu.table < lastSequence) (hr : r.seq = newestSeq s.slu.table + 1) :
      Move s (s.startWrite r none)
  | rewrite {s : State} {b : Buffer} (hb : s.slu.buffer = some b) (failed : Option (Fin 16)) :
      Move s (s.startWrite b.record failed)
  | commit {s : State} {b : Buffer} (hb : s.slu.buffer = some b) : Move s (s.commitBuffer b)
  | dropBuffer (s : State) : Move s { s with slu.buffer := none }
  | settle {s : State} (rx : Received) (hlt : rx.source < 16) (hne : rx.source ≠ s.mdu.station) :
      Move s (s.settleEntry rx)
  | age (s : State) : Move s s.ageView

/-- A sequence of moves. -/
abbrev Moves : State → State → Prop := Relation.ReflTransGen Move

/-- A change of the machine: a move, or one that touches the mode or what holds the sequencer OFF. -/
inductive Change : State → State → Prop where
  | move {s t : State} (h : Move s t) : Change s t
  | clear (s : State) (l : List Flag) : Change s (s.dropFlags l).openingTest
  | dupId (s : State) : Change s (s.raiseFlag .dupId).sequencerOff
  | injector {s t : State} (h : Quiet s t) : Change s t.injectorFails
  | measured {s t u : State} {p : Phase} {k : Nat} (hseq : s.imon.seq = .injecting p k) (h : Quiet s t)
      (hm : Moves t u) : Change s u.enterWaiting
  | configure {s : State} (h : s.mdu.mode = .start) (cfg : ImageConfig) (qraw : Nat) :
      Change s { s with mdu.cfg := cfg, emt.qraw := qraw }
  | failImage {s : State} (h : s.mdu.mode = .start) : Change s s.failImage
  | scanSlot {s : State} (h : s.mdu.mode = .start) (slot : Fin 16) {found : Option Nat}
      (hf : ∀ n, found = some n → committedSeq s.store slot = some n) : Change s (s.scanSlot slot found)
  | listening {s : State} (h : s.mdu.mode.runs = false) : Change s s.beginListening
  | configHold {s : State} (h : s.mdu.mode = .start) : Change s s.endStartFailed
  | run {s : State} (h : s.mdu.mode = .listening) : Change s s.enterRun
  | powerFail {s : State} (h : s.mdu.mode = .listening ∨ s.mdu.mode = .run) : Change s s.powerDeparts
  | dormant {s : State} (h : s.dormantReady = true) : Change s s.enterDormant

/-- A sequence of changes. -/
abbrev Reaches : State → State → Prop := Relation.ReflTransGen Change

/-- What every change keeps, a sequence of them keeps. -/
theorem Reaches.keeps {I : State → Prop} (hI : ∀ {s t}, Change s t → I s → I t) {s t : State} (h : Reaches s t)
    (hs : I s) : I t := by
  induction h with
  | refl => exact hs
  | tail _ hc ih => exact hI hc ih

theorem Moves.keeps {I : State → Prop} (hI : ∀ {s t}, Move s t → I s → I t) {s t : State} (h : Moves s t)
    (hs : I s) : I t := by
  induction h with
  | refl => exact hs
  | tail _ hc ih => exact hI hc ih

theorem Moves.reaches {s t : State} (h : Moves s t) : Reaches s t :=
  Relation.ReflTransGen.mono (fun _ _ hm => Change.move hm) _ _ h

end Sys2Proof.Machine
end

section
/-! PROOF. The operations of the session unit, the monitor, the line and the contract as sequences of moves. -/

namespace Sys2Proof.Machine

/-! ## Quiet changes -/

theorem Quiet.refl (s : State) : Quiet s s := ⟨Aside.refl s, rfl⟩

/-- A change of the bus, the clock, the pins and of what no invariant reads in the other blocks. -/
theorem Quiet.of_blocks {s t : State} (hmdu : t.mdu = s.mdu) (hline : t.mfe.line = s.mfe.line) (hpvt : t.pvt = s.pvt)
    (hthu : t.thu = s.thu) (hshe : t.she = s.she) (hins : t.imon.insulation = s.imon.insulation)
    (hclear : t.imon.clearance = s.imon.clearance) (hemt : t.emt.active = s.emt.active) (hslu : t.slu = s.slu)
    (hflu : t.flu = s.flu) (hstore : t.store = s.store) : Quiet s t := by
  refine ⟨?_, by simp [State.ownLimit, hpvt, hmdu]⟩
  constructor <;> simp [*]

theorem Quiet.trans {s t u : State} (h : Quiet s t) (h' : Quiet t u) : Quiet s u := by
  obtain ⟨ha, hl⟩ := h
  obtain ⟨ha', hl'⟩ := h'
  refine ⟨?_, hl'.trans hl⟩
  cases ha
  cases ha'
  constructor <;> simp [*]

theorem Quiet.injectionSafe {s t : State} (h : Quiet s t) (hi : t.imon = s.imon) (hs : s.InjectionSafe) :
    t.InjectionSafe :=
  injectionSafe_congr (by rw [hi]) (by rw [hi]) (by rw [hi]) (by rw [h.barred]; exact id) hs

theorem quiet_setSeq (s : State) (q : Seq) : Quiet s (s.setSeq q) := by apply Quiet.of_blocks <;> simp
theorem quiet_draw (s : State) : Quiet s s.draw := by apply Quiet.of_blocks <;> simp
theorem quiet_enterWaiting (s : State) : Quiet s s.enterWaiting := (quiet_draw s).trans (quiet_setSeq _ _)
theorem quiet_enterHoldoff (s : State) : Quiet s s.enterHoldoff := (quiet_draw s).trans (quiet_setSeq _ _)
theorem quiet_withdrawIntent (s : State) : Quiet s s.withdrawIntent := by apply Quiet.of_blocks <;> simp
theorem quiet_loadOwnResult (s : State) (k : ResultKind) (v : Nat) : Quiet s (s.loadOwnResult k v) := by
  apply Quiet.of_blocks <;> simp
theorem quiet_clearSums (s : State) : Quiet s s.clearSums := by apply Quiet.of_blocks <;> simp

/-- A quiet change that leaves the insulation monitor alone. -/
theorem Moves.still {s t : State} (h : Quiet s t) (hi : t.imon = s.imon) : Moves s t :=
  .single (.quiet h (h.injectionSafe hi))

/-- The sequencer goes on from a state other than OFF, in which nothing holds it OFF. -/
theorem Moves.setSeq {s t : State} (h : Quiet s t) (hs : s.imon.seq ≠ .off) (q : Seq) : Moves s (t.setSeq q) := by
  have hq : Quiet s (t.setSeq q) := h.trans (quiet_setSeq t q)
  refine .single (.quiet hq fun ⟨_, _, hoff⟩ => ⟨by simp, by simp, fun hb => ?_⟩)
  exact absurd (hoff (hq.barred ▸ hb)) hs

theorem Moves.enterWaiting {s t : State} (h : Quiet s t) (hs : s.imon.seq ≠ .off) : Moves s t.enterWaiting :=
  .setSeq (h.trans (quiet_draw t)) hs _

theorem Moves.enterHoldoff {s t : State} (h : Quiet s t) (hs : s.imon.seq ≠ .off) : Moves s t.enterHoldoff :=
  .setSeq (h.trans (quiet_draw t)) hs _

/-! ## Session unit -/

/-- The end of an OPEN session is its departure, after which its record moves; with no session OPEN nothing happens
(R143). -/
theorem endSession_eq (s : State) (reason : EndReason) :
    s.endSession reason = (s.sessionDeparts reason).moveToBuffer ∨ s.endSession reason = s.sessionDeparts reason := by
  unfold State.endSession State.sessionDeparts
  cases s.slu.session with
  | opened r left => exact .inl rfl
  | _ => exact .inr rfl

theorem moves_recompute (s : State) : Moves s s.recompute := .single (.recompute (.refl s) rfl)

theorem moves_openingTest (s : State) : Moves s s.openingTest := by
  obtain ⟨id, left, hp, hm, e⟩ | e := openingTest_cases s <;> rw [e]
  exact .single (.openSession hm (by simp [hp, Session.isPending]) id)

theorem moves_monitorIdle (s : State) : Moves s s.monitorIdle := by
  unfold State.monitorIdle
  split
  · exact ((Relation.ReflTransGen.single (.clearanceOff s)).tail
      (.insulation (i := .good) _ (by decide))).tail (.recompute (.refl _) rfl)
  · exact .single (.clearanceOff s)

theorem moves_enterPending {s : State} (h : s.slu.session.isOpen = false) (id : Nat) : Moves s (s.enterPending id) :=
  .trans (.single (.goPending h id)) (moves_openingTest _)

theorem isOpen_of_isIdle {x : Session} (h : x.isIdle = true) : x.isOpen = false := by
  cases x <;> simp_all [Session.isIdle, Session.isOpen]

theorem isOpen_of_isPending {x : Session} (h : x.isPending = true) : x.isOpen = false := by
  cases x <;> simp_all [Session.isPending, Session.isOpen]

theorem moves_offerSession (s : State) (plugged : Bool) (id : Nat) : Moves s (s.offerSession plugged id) := by
  obtain ⟨hidle, -, -, -, -, e⟩ | e := offerSession_cases s plugged id <;> rw [e]
  exact moves_enterPending (isOpen_of_isIdle hidle) id

theorem moves_returnToIdle (s : State) : Moves s s.returnToIdle := by
  obtain ⟨hp, e⟩ | ⟨-, e⟩ := returnToIdle_cases s <;> rw [e]
  exact (((Relation.ReflTransGen.single (.idle (isOpen_of_isPending hp))).trans (moves_monitorIdle _)).trans
    (moves_recompute _)).tail (.applyDuty _)

theorem moves_retest (s : State) : Moves s s.retest := by
  unfold State.retest
  split
  · exact moves_offerSession ..
  · exact .refl

theorem moves_idleAfterEnd {s : State} (h : s.slu.session.isOpen = false) : Moves s s.idleAfterEnd := by
  have hidle : Moves s { s with slu.session := .idle }.meterIdles := .tail (.single (.idle h)) (.meterIdles rfl)
  exact (((hidle.trans (moves_monitorIdle _)).trans (moves_recompute _)).tail (.applyDuty _)).trans (moves_retest _)

theorem raiseFlag_session (s : State) (f : Flag) : (s.raiseFlag f).slu.session = s.slu.session.addFlag f := by
  simp [State.raiseFlag]

@[simp] theorem addFlag_kind (x : Session) (f : Flag) :
    (x.addFlag f).isOpen = x.isOpen ∧ (x.addFlag f).isPending = x.isPending ∧ (x.addFlag f).isIdle = x.isIdle := by
  cases x <;> simp [Session.addFlag, Session.isOpen, Session.isPending, Session.isIdle]

theorem moves_raiseFlag (s : State) {f : Flag} (hf : f.bars = false) : Moves s (s.raiseFlag f) :=
  .single (.raise (.refl s) rfl f hf)

theorem moves_latchLog (s : State) : Moves s s.latchLog := by
  unfold State.latchLog
  split
  · exact .refl
  · exact moves_raiseFlag s rfl

theorem latchLog_isOpen (s : State) : s.latchLog.slu.session.isOpen = s.slu.session.isOpen := by
  unfold State.latchLog
  split <;> simp [raiseFlag_session]

theorem moves_moveToBuffer (s : State) : Moves s s.moveToBuffer := by
  obtain ⟨r, reason, closed, he, hb, ⟨-, e⟩ | ⟨hn, e⟩⟩ | e := moveToBuffer_cases s <;> rw [e]
  · exact (moves_latchLog s).trans (moves_idleAfterEnd (by rw [latchLog_isOpen, he]; rfl))
  · exact (Relation.ReflTransGen.single (.newWrite _ hb hn rfl)).trans
      (moves_idleAfterEnd (by simp [State.startWrite, he, Session.isOpen]))

theorem moves_endSession (s : State) (reason : EndReason) : Moves s (s.endSession reason) := by
  have hd : Moves s (s.sessionDeparts reason) := .single (.departs s reason)
  obtain e | e := endSession_eq s reason <;> rw [e]
  · exact hd.trans (moves_moveToBuffer _)
  · exact hd

theorem moves_sessionLatch (s : State) (f : Flag) : Moves s (s.sessionLatch f) := by
  have hends : Moves s (s.latchEnds f) := by
    unfold State.latchEnds
    split
    · exact moves_endSession ..
    · exact moves_endSession ..
    · exact .refl
  unfold State.sessionLatch
  split
  · exact hends.trans (moves_openingTest _)
  · exact .refl

theorem monitorLatch_of_not_bars {f : Flag} (hf : f.bars = false) (s : State) : s.monitorLatch f = s := by
  cases f <;> first | rfl | cases hf

theorem moves_latch (s : State) {f : Flag} (hf : f.bars = false) : Moves s (s.latch f) := by
  cases h : s.latched f
  · rw [latch_new h, monitorLatch_of_not_bars hf]
    exact (moves_raiseFlag s hf).trans (moves_sessionLatch _ _)
  · rw [latch_again h]

theorem moves_sessionStops (s : State) (reason : EndReason) : Moves s (s.sessionStops reason) := by
  unfold State.sessionStops
  repeat' split
  · exact moves_returnToIdle s
  · exact moves_endSession ..
  · exact .refl
  · exact .refl

theorem moves_sessionContract (s : State) (plugged : Bool) (id : Nat) : Moves s (s.sessionContract plugged id) := by
  unfold State.sessionContract
  repeat' split
  · exact moves_offerSession ..
  · exact moves_returnToIdle s
  · exact (moves_returnToIdle s).trans (moves_offerSession ..)
  · exact .refl
  · exact moves_endSession ..
  · exact moves_endSession ..
  all_goals exact .refl

/-! ## Insulation monitor -/

theorem moves_enterIsoFault (s : State) : Moves s s.enterIsoFault := by
  have hd : Moves s s.isoFaultDeparts := .single (.isoFault s)
  refine .trans ?_ (moves_recompute _)
  change Moves s (State.endSession .isoFault { (s.faultEntered.latch .isoFault) with imon.clearance := false })
  obtain e | e := endSession_eq { (s.faultEntered.latch .isoFault) with imon.clearance := false } .isoFault <;> rw [e]
  · exact hd.trans (moves_moveToBuffer _)
  · exact hd

theorem moves_enterIsoGood (s : State) : Moves s s.enterIsoGood :=
  (Relation.ReflTransGen.single (.insulation s (by decide))).trans (moves_recompute _)

theorem moves_enterIsoWarning (s : State) : Moves s s.enterIsoWarning :=
  ((Relation.ReflTransGen.single (.insulation s (by decide))).trans (moves_latch _ rfl)).trans (moves_recompute _)

theorem moves_insulationStep (s : State) : Moves s s.insulationStep := by
  unfold State.insulationStep
  repeat' split
  all_goals first
    | exact .refl
    | exact moves_enterIsoFault s
    | exact moves_enterIsoGood s
    | exact moves_enterIsoWarning s

@[simp] theorem addResult_kind (x : Session) (r : Nat) :
    (x.addResult r).isOpen = x.isOpen ∧ (x.addResult r).isPending = x.isPending ∧
    (x.addResult r).isIdle = x.isIdle := by
  cases x <;> simp [Session.addResult, Session.isOpen, Session.isPending, Session.isIdle]

@[simp] theorem counted_rest (m : Monitor) (faultK warnK r : Nat) :
    (m.counted faultK warnK r).seq = m.seq ∧ (m.counted faultK warnK r).isoSw = m.isoSw ∧
    (m.counted faultK warnK r).injecting = m.injecting ∧ (m.counted faultK warnK r).insulation = m.insulation ∧
    (m.counted faultK warnK r).clearance = m.clearance := by
  unfold Monitor.counted
  repeat' split
  all_goals simp

theorem moves_giveClearance (s : State) (r : Nat) : Moves s (s.giveClearance r) := by
  unfold State.giveClearance
  split
  · next h => exact .single (.clearanceOn h.2.2.1)
  · exact .refl

theorem moves_classify (s : State) (r : Nat) : Moves s (s.classify r) := by
  unfold State.classify
  split
  · refine .trans (.single (.quiet ?_ ?_)) ((moves_insulationStep _).trans (moves_giveClearance _ r))
    · exact ⟨by constructor <;> simp, rfl⟩
    · exact injectionSafe_congr (by simp) (by simp) (by simp) id
  · exact .refl

theorem moves_restartInterval (s : State) : Moves s s.restartInterval := by
  unfold State.restartInterval
  split
  · next h => exact .enterWaiting (.refl s) (by simp [h])
  · next h => exact .enterWaiting (.refl s) (by simp [h])
  · exact .refl

theorem moves_abortMeasurement {s : State} (hs : s.imon.seq ≠ .off) : Moves s s.abortMeasurement :=
  .enterHoldoff ((quiet_clearSums s).trans (quiet_loadOwnResult _ _ _)) hs

theorem moves_standBack (s : State) : Moves s s.standBack := by
  obtain ⟨hs, e⟩ | ⟨left, hs, e⟩ | ⟨p, k, hs, e⟩ | e := standBack_cases s <;> rw [e]
  · exact .enterHoldoff (quiet_withdrawIntent s) (by simp [hs])
  · exact .enterHoldoff (.refl s) (by simp [hs])
  · exact moves_abortMeasurement (by simp [hs])

theorem moves_takeTurn {s : State} (hs : s.imon.seq ≠ .off) : Moves s s.takeTurn := by
  unfold State.takeTurn
  split
  · exact .enterHoldoff (.refl s) hs
  · exact .setSeq (by apply Quiet.of_blocks <;> simp) hs _

theorem moves_intentSent (s : State) : Moves s s.intentSent := by
  unfold State.intentSent
  split
  · next h => exact .setSeq (.refl s) (by simp [h]) _
  · exact .refl

theorem moves_intentDropped (s : State) : Moves s s.intentDropped := by
  unfold State.intentDropped
  split
  · next h => exact .enterHoldoff (.refl s) (by simp [h])
  · exact .refl

/-! ## Energy meter -/

@[simp] theorem addProduct_active (m : Meter) (p : Int) (cls : Nat) : (m.addProduct p cls).active = m.active := by
  unfold Meter.addProduct Meter.addImport
  repeat' split
  all_goals rfl

@[simp] theorem addHeat_active (m : Meter) (ph : Nat) : (m.addHeat ph).active = m.active := by
  unfold Meter.addHeat
  split <;> simp

@[simp] theorem State.meterSample_active (s : State) (v i : Int) :
    (s.meterSample v i).emt.active = s.emt.active := by
  unfold State.meterSample
  split <;> simp

@[simp] theorem State.meterScan_active (s : State) : s.meterScan.emt.active = s.emt.active := by
  unfold State.meterScan
  split <;> simp

@[simp] theorem State.meterSecond_active (s : State) : s.meterSecond.emt.active = s.emt.active := by
  unfold State.meterSecond
  repeat' split
  all_goals rfl

@[simp] theorem State.meterJump_active (s : State) : s.meterJump.emt.active = s.emt.active := by
  unfold State.meterJump
  split <;> rfl

@[simp] theorem State.offerTime_active (s : State) (d n : Nat) : (s.offerTime d n).emt.active = s.emt.active := by
  unfold State.offerTime
  repeat' split
  all_goals simp

theorem moves_meterSample (s : State) (v i : Int) : Moves s (s.meterSample v i) :=
  .still (by apply Quiet.of_blocks <;> simp) (by simp)

theorem moves_meterScan (s : State) : Moves s s.meterScan := .still (by apply Quiet.of_blocks <;> simp) (by simp)

theorem moves_meterSecond (s : State) : Moves s s.meterSecond := .still (by apply Quiet.of_blocks <;> simp) (by simp)

/-! ## Contract record -/

/-- A new record, with the time and the halted id that come with it, read by a recomputation (R43, R44, R81). -/
theorem moves_acceptContract (s : State) (source : Nat) (p : List Byte) : Moves s (s.acceptContract source p) := by
  refine .trans (.single (.recompute ?_ ?_)) (moves_sessionContract ..)
  · constructor <;> simp
  · simp

theorem moves_restartLoss (s : State) : Moves s s.restartLoss :=
  .still ⟨by constructor <;> simp, by simp [State.ownLimit]⟩ (by simp)

theorem moves_enterConflict (s : State) (r : Contract) (contender : Nat) : Moves s (s.enterConflict r contender) := by
  unfold State.enterConflict
  generalize hu : ({ s with
    pvt.record := some { r with status := .conflicted contender }, pvt.lossTimer := some lossTime } : State) = u
  have ha : Aside s u := by subst hu; constructor <;> rfl
  have hi : u.imon = s.imon := by subst hu; rfl
  cases h : u.latched .contractConflict
  · rw [latch_new h, monitorLatch_of_not_bars rfl]
    exact ((Relation.ReflTransGen.single (.raise ha hi _ rfl)).trans (moves_sessionLatch _ _)).trans
      (moves_recompute _)
  · rw [latch_again h]
    exact .single (.recompute ha hi)

theorem moves_contractArrives (s : State) (source : Nat) (p : List Byte) : Moves s (s.contractArrives source p) := by
  unfold State.contractArrives
  repeat' split
  all_goals first
    | exact moves_acceptContract ..
    | exact moves_restartLoss s
    | exact moves_enterConflict ..

theorem moves_loseContract (s : State) : Moves s s.loseContract :=
  .trans
    (.single (.recompute (t := { s with pvt.record := none, pvt.lossTimer := none }) (by constructor <;> rfl) rfl))
    (moves_sessionStops _ _)

theorem moves_haltArrives (s : State) (source : Nat) : Moves s (s.haltArrives source) := by
  have hhalt : ∀ n, Moves s { s with pvt.halted := n } := fun n => .still ⟨by constructor <;> rfl, rfl⟩ rfl
  unfold State.haltArrives
  split
  · split
    · exact (hhalt _).trans (moves_sessionStops _ _)
    · exact .refl
  · exact .refl

/-! ## Line -/

/-- A change of the front end that keeps the line state. -/
theorem moves_mfe (s : State) {m : FrontEnd} (h : m.line = s.mfe.line) : Moves s { s with mfe := m } :=
  .still (by apply Quiet.of_blocks <;> first | rfl | exact h) rfl

theorem moves_overdrawCheck (s : State) (irms : Nat) : Moves s (s.overdrawCheck irms) := by
  unfold State.overdrawCheck
  repeat' split
  all_goals first
    | exact .refl
    | exact .still ⟨by constructor <;> rfl, rfl⟩ rfl

theorem moves_lineLatch (s : State) (before : LineState) : Moves s (s.lineLatch before) := by
  unfold State.lineLatch
  split
  · exact moves_latch s rfl
  · exact .refl

theorem moves_closeCycle (s : State) (old t : Nat) (v i : Int) : Moves s (s.closeCycle old t v i) :=
  ((Relation.ReflTransGen.single (.line s _)).trans (moves_lineLatch _ _)).trans (moves_overdrawCheck _ _)

theorem moves_loseLine (s : State) : Moves s s.loseLine := .single (.line s _)

theorem moves_plainSample (s : State) (v i : Int) : Moves s (s.plainSample v i) := by
  unfold State.plainSample
  repeat' split
  · exact moves_mfe s rfl
  · exact moves_mfe s rfl
  · exact moves_loseLine s
  · exact moves_mfe s rfl

theorem moves_lineSample (s : State) (v i : Int) : Moves s (s.lineSample v i) := by
  unfold State.lineSample
  repeat' split
  · exact moves_closeCycle ..
  · exact .single (.line s _)
  · exact moves_plainSample ..
  · exact moves_plainSample ..

theorem moves_keepSample (s : State) (v : Int) : Moves s (s.keepSample v) := moves_mfe s rfl

theorem moves_takeMetering (s : State) (v i : Int) (meterFirst : Bool) : Moves s (s.takeMetering v i meterFirst) := by
  unfold State.takeMetering
  split
  · exact ((moves_meterSample ..).trans (moves_lineSample ..)).trans (moves_keepSample _ v)
  · exact ((moves_lineSample ..).trans (moves_keepSample _ v)).trans (moves_meterSample ..)

/-! ## Thermal unit -/

theorem moves_thermalUpdate (s : State) : Moves s s.thermalUpdate := .tail (.single (.setDemand s _)) (.convert _)

theorem moves_sensorStep (s : State) : Moves s s.sensorStep := by
  have hthu : ∀ b, Moves s { s with thu.sensorFault := b } := fun b => .still ⟨by constructor <;> rfl, rfl⟩ rfl
  have hfault : ∀ u : State, Moves u u.thermalFault := by
    intro u
    unfold State.thermalFault
    split
    · exact moves_endSession ..
    · exact .refl
  unfold State.sensorStep
  repeat' split
  · exact .refl
  · exact ((hthu true).trans (moves_latch _ rfl)).trans (hfault _)
  · exact hthu false

theorem moves_heaterStep (s : State) : Moves s s.heaterStep := by
  unfold State.heaterStep
  repeat' split
  · exact .refl
  · exact .trans (.single (.setHeater s _)) (moves_latch _ rfl)
  · exact .single (.setHeater s _)
  · exact .refl
  · exact .single (.setHeater s _)

theorem moves_thermalScan (s : State) : Moves s s.thermalScan := by
  have hcell : Moves s s.cellStep := .still ⟨by constructor <;> rfl, rfl⟩ rfl
  have hcap : ∀ u : State, Moves u u.capStep := fun u => .still ⟨by constructor <;> rfl, rfl⟩ rfl
  have hpower : ∀ u : State, Moves u u.powerStep := fun u => .still ⟨by constructor <;> rfl, rfl⟩ rfl
  unfold State.thermalScan
  split
  · exact (hcell.trans (moves_sensorStep _)).tail (.thermalHold _)
  · exact ((((hcell.trans (moves_sensorStep _)).trans (moves_heaterStep _)).trans (hcap _)).trans (hpower _)).trans
      (moves_thermalUpdate _)

theorem moves_finishScan (s : State) (ustr : BitVec 12) (temps : Sensors (Option Int)) (ref : BitVec 12) :
    Moves s (s.finishScan ustr temps ref) := by
  have hlatch : ∀ (u : State) before, Moves u (u.refLatch before) := by
    intro u before
    unfold State.refLatch
    split
    · exact moves_latch u rfl
    · exact .refl
  have hpublish : ∀ (u : State) r, Moves u (u.publishScan r) := fun u _ => moves_mfe u rfl
  refine .trans (.trans ?_ (hlatch _ _)) (hpublish _ _)
  exact moves_mfe s rfl

theorem moves_scanConsumers (s : State) (meterFirst : Bool) : Moves s (s.scanConsumers meterFirst) := by
  unfold State.scanConsumers
  split
  · exact (moves_meterScan s).trans (moves_thermalScan _)
  · exact (moves_thermalScan s).trans (moves_meterScan _)

/-! ## Own periods and the store -/

theorem moves_ageAndClaim (s : State) (ageFirst : Bool) : Moves s (s.ageAndClaim ageFirst) := by
  unfold State.ageAndClaim
  split
  · exact .tail (.single (.age s)) (.periodClaim _ _)
  · exact .tail (.single (.periodClaim s _)) (.age _)

theorem moves_overdrawHold (s : State) : Moves s s.overdrawHold := by
  have hhold : Moves s { s with she.hold := true } := .still ⟨by constructor <;> rfl, rfl⟩ rfl
  unfold State.overdrawHold
  split
  · exact (hhold.tail (.convert _)).trans (moves_endSession _ _)
  · exact .refl

theorem moves_writeDone {s : State} {b : Buffer} (hb : s.slu.buffer = some b) (success : Bool) :
    Moves s (s.writeDone success b) := by
  unfold State.writeDone
  repeat' split
  · exact .trans (.single (.commit hb)) (moves_moveToBuffer _)
  · exact .single (.rewrite hb _)
  · exact ((Relation.ReflTransGen.single (.dropBuffer s)).trans (moves_latch _ rfl)).trans (moves_moveToBuffer _)

end Sys2Proof.Machine
end

section
/-! PROOF. Every step as a sequence of changes: each command's meaning, and the passing of time. -/

namespace Sys2Proof.Machine

/-! ## Bus, timers and pins -/

/-- A change of the bus alone. -/
theorem moves_pbi (s : State) (p : PeerBus) : Moves s { s with pbi := p } :=
  .still (by apply Quiet.of_blocks <;> rfl) rfl

theorem moves_telegramEnds (s : State) : Moves s s.telegramEnds := .still (by apply Quiet.of_blocks <;> simp) (by simp)

theorem moves_takeUpEnds (s : State) : Moves s s.takeUpEnds := .still (by apply Quiet.of_blocks <;> simp) (by simp)

theorem moves_reportDrop (s : State) (k : SlotKind) (dropped : Bool) : Moves s (s.reportDrop k dropped) := by
  unfold State.reportDrop
  split
  · exact moves_intentDropped s
  · exact .refl

theorem moves_reportSuccess (s : State) (a : Attempt) : Moves s (s.reportSuccess a) := by
  unfold State.reportSuccess
  split
  · exact moves_intentSent s
  · exact .single (.beaconSent s _)
  · exact .refl
  · exact .refl

theorem moves_leaveOff (s : State) : Moves s s.leaveOff := by
  obtain ⟨hoff, hfree, left, e⟩ | e := leaveOff_cases s <;> rw [e]
  have hq : Quiet s (s.draw.setSeq (.waiting left)) := (quiet_draw s).trans (quiet_setSeq _ _)
  refine .single (.quiet hq fun _ => ⟨by simp, by simp, fun hb => ?_⟩)
  rw [hq.barred, hfree] at hb
  cases hb

/-! ## Sequencer -/

theorem reaches_injectorFails {s t : State} (h : Quiet s t) : Reaches s t.injectorFails := .single (.injector h)

/-- The end of a measurement (R110): the sequencer stands in INJECTING until the result has been handed on. -/
theorem reaches_completeMeasurement {s : State} {p : Phase} {k : Nat} (hs : s.imon.seq = .injecting p k) :
    Reaches s s.completeMeasurement := by
  have hopen : Quiet s { s with imon.isoSw := .opened, mfe.insClock := none } := by apply Quiet.of_blocks <;> rfl
  have hload : ∀ (u : State) n kind value,
      Quiet u ({ u with imon.noResponse := n }.loadOwnResult kind value) := by
    intro u n kind value
    apply Quiet.of_blocks <;> simp
  unfold State.completeMeasurement
  split
  · unfold State.finishNoResponse
    split
    · exact reaches_injectorFails (hopen.trans (hload _ _ _ _))
    · exact .single (.measured hs (hopen.trans (hload _ _ _ _)) .refl)
  · refine .single (.measured hs hopen (.tail (moves_classify _ _) (.quiet (hload _ 0 _ _) ?_)))
    exact injectionSafe_congr (by simp) (by simp) (by simp) (by simp [State.sequencerBarred, State.latched])

theorem reaches_advanceSample {s : State} {p : Phase} {k : Nat} (hs : s.imon.seq = .injecting p k) (q : Phase)
    (index : Nat) : Reaches s (s.advanceSample q index) := by
  have hseq : s.imon.seq ≠ .off := by simp [hs]
  unfold State.advanceSample
  repeat' split
  · exact (Moves.setSeq (.refl s) hseq _).reaches
  · exact (Moves.setSeq (.refl s) hseq _).reaches
  · exact reaches_completeMeasurement hs

theorem reaches_takeSample {s : State} {p : Phase} {k : Nat} (hs : s.imon.seq = .injecting p k) (index : Nat)
    (code : Int) : Reaches s (s.takeSample p index code) := by
  unfold State.takeSample
  repeat' split
  · exact reaches_advanceSample hs p index
  · exact (moves_abortMeasurement (by simp [hs])).reaches
  · have hkeep : Move s { s with imon.sums := s.imon.sums.add p code } :=
      .quiet (by apply Quiet.of_blocks <;> rfl) (injectionSafe_congr rfl rfl rfl id)
    exact .trans (Moves.reaches (.single hkeep))
      (reaches_advanceSample (s := { s with imon.sums := s.imon.sums.add p code }) hs p index)

/-! ## Modes -/

theorem reaches_dormantTest (before : State) {s t : State} (h : Reaches s t) :
    Reaches s (State.dormantTest before t) := by
  obtain ⟨hr, -, e⟩ | e := dormantTest_cases before t <;> rw [e]
  · exact h.tail (.dormant hr)
  · exact h

theorem moves_sessionPowerFail (s : State) : Moves s s.sessionPowerFail := by
  unfold State.sessionPowerFail
  split
  · exact moves_returnToIdle s
  · exact moves_endSession ..
  · exact .refl

/-- A PWR_FAIL assertion is its departures, and then the return of a PENDING session or the move of the record
(R171, R152). -/
theorem reaches_takePowerFail {s : State} (h : s.mdu.mode = .listening ∨ s.mdu.mode = .run) :
    Reaches s s.takePowerFail := by
  refine .trans (.single (.powerFail h)) (Moves.reaches ?_)
  change Moves s.powerDeparts s.powerHolds.sessionPowerFail
  unfold State.powerDeparts State.sessionPowerFail
  generalize s.powerHolds = u
  cases hu : u.slu.session with
  | pending id left => simpa [State.sessionDeparts, hu] using moves_returnToIdle u
  | opened r left =>
    obtain e | e := endSession_eq u .powerFail <;> simp only [e]
    · exact moves_moveToBuffer _
    · exact .refl
  | _ => simp [State.sessionDeparts, hu, Relation.ReflTransGen.refl]

theorem reaches_enterListening {s : State} (h : s.mdu.mode.runs = false) : Reaches s s.enterListening := by
  have hheld : ∀ u : State, Moves u { u with mdu.heldPwrFail := false } := fun u =>
    .still ⟨by constructor <;> rfl, rfl⟩ rfl
  refine .trans (.single (.listening h)) ?_
  unfold State.enterListening State.examineHeld
  change Reaches s.beginListening (if s.beginListening.mdu.heldPwrFail ∧ s.beginListening.pins.pwrFail then _ else _)
  split
  · refine (hheld _).reaches.trans (reaches_takePowerFail (.inl ?_))
    simp [State.beginListening]
  · exact (hheld _).reaches

theorem reaches_startTest (s : State) : Reaches s s.startTest := by
  unfold State.startTest
  split
  · next hm _ _ =>
    exact .trans (.single (.configure hm _ _)) (reaches_enterListening (by simp [hm, Mode.runs]))
  · next hm _ _ => exact .single (.configHold hm)
  · exact .refl

theorem moves_checkImage_passed (s : State) (cfg : ImageConfig) : Moves s { s with mdu.image := .passed cfg } :=
  .still ⟨by constructor <;> rfl, rfl⟩ rfl

theorem reaches_checkImage {s : State} (h : s.mdu.mode = .start) (image : List Byte) :
    Reaches s (s.checkImage image) := by
  unfold State.checkImage
  split
  · exact (moves_checkImage_passed s _).reaches
  · exact .single (.failImage h)

theorem reaches_scanFound {s : State} {found : Fin 16 → Option Nat}
    (hf : ∀ slot n, found slot = some n → committedSeq s.store slot = some n) : Reaches s (s.scanFound found) := by
  unfold State.scanFound
  split
  · next slot _ hm _ => exact .trans (.single (.scanSlot hm slot (hf slot))) (reaches_startTest _)
  · exact .refl

theorem reaches_listenOn (s : State) : Reaches s s.listenOn := by
  have hcount : ∀ n, Moves s { s with mdu.listening := n } := fun n => .still ⟨by constructor <;> rfl, rfl⟩ rfl
  unfold State.listenOn
  repeat' split
  · next h _ => exact (hcount _).reaches.tail (.run h)
  · exact (hcount _).reaches
  · exact .refl

theorem reaches_beaconPeriodFires (s : State) (ageFirst : Bool) : Reaches s (s.beaconPeriodFires ageFirst) := by
  have htimer : Moves s { s with mdu.beaconTimer := some s.beaconPeriod } := .still ⟨by constructor <;> rfl, rfl⟩ rfl
  have hrequest : ∀ u : State, Moves u u.requestBeacon := fun u =>
    .still (by apply Quiet.of_blocks <;> simp) (by simp)
  exact (Moves.reaches ((htimer.trans (moves_ageAndClaim _ _)).trans (hrequest _))).trans (reaches_listenOn _)

/-! ## Arrivals -/

/-- The source of a telegram that passes the checks is a station id (R33). -/
theorem checkTelegram_source {t : List Byte} {rx : Received} (h : checkTelegram t = some rx) : rx.source < 16 := by
  unfold checkTelegram at h
  repeat' split at h
  all_goals cases h
  next d hd l rest _ _ _ _ _ => have := hd.isLt; simp; omega

theorem reaches_latchDupId (s : State) : Reaches s (s.latch .dupId) := by
  cases h : s.latched .dupId
  · rw [latch_new h]
    exact .trans (.single (.dupId s)) (moves_sessionLatch _ _).reaches
  · rw [latch_again h]

theorem moves_heard (s : State) (k : Kind) : Moves s (s.heard k) := by
  have hmdu := heard_mdu s k
  exact .still ⟨by constructor <;> simp [hmdu], by simp [State.ownLimit, hmdu]⟩ (by simp)

theorem reaches_arrive (s : State) (k : Kind) (t : List Byte) {pass : Received → State → State}
    (hp : ∀ rx u, Reaches u (pass rx u)) : Reaches s (s.arrive k t pass) := by
  refine reaches_dormantTest s ?_
  unfold State.receive
  repeat' split
  · have hends := (moves_telegramEnds s).reaches
    obtain ⟨e, -⟩ | ⟨rx, -, -, -, e⟩ | ⟨rx, hc, -, hne, e⟩ := completeTelegram_cases s k t pass <;> rw [e]
    · exact hends
    · exact hends.trans (reaches_latchDupId _)
    · exact ((hends.tail (.move (.settle rx (checkTelegram_source hc) hne))).trans (moves_heard _ k).reaches).trans
        (hp rx _)
  · exact (moves_pbi s _).reaches
  · exact .refl

theorem reaches_clearFlags (named : FlagSet) (s : State) : Reaches s (s.clearFlags named) := by
  have hcleared : ∀ u : State, Moves u u.injectorCleared := by
    intro u
    refine .trans (.single (.quiet (t := { u with imon.noResponse := 0 }) ?_ ?_)) (moves_leaveOff _)
    · apply Quiet.of_blocks <;> rfl
    · exact injectionSafe_congr rfl rfl rfl id
  obtain ⟨-, e⟩ | ⟨-, e⟩ | ⟨-, e⟩ := clearFlags_cases named s <;> rw [e]
  · exact .single (.clear s _)
  · exact .trans (.single (.clear s _)) (hcleared _).reaches

/-! ## The passing of time -/

@[simp] theorem later_kind (x : Session) :
    x.later.isOpen = x.isOpen ∧ x.later.isPending = x.isPending := by
  cases x <;> simp [Session.later, Session.isOpen, Session.isPending]

@[simp] theorem later_switch (q : Seq) : q.later.switch = q.switch ∧ q.later.flag = q.flag ∧
    (q.later = .off ↔ q = .off) := by
  cases q <;> simp [Seq.later, Seq.switch, Seq.flag]

theorem moves_countDown (s : State) : Moves s s.countDown := by
  have hbuffer : (s.slu.buffer.map Buffer.later).map Buffer.record = s.slu.buffer.map Buffer.record := by
    cases s.slu.buffer <;> rfl
  have hq : Quiet s s.countDown := by
    refine ⟨?_, rfl⟩
    constructor <;> simp [State.countDown, -Option.map_map, hbuffer]
  refine .single (.quiet hq fun ⟨hsw, hflag, hoff⟩ => ?_)
  have hbar := hq.barred
  simp_all [State.InjectionSafe, State.countDown]

theorem reaches_idleStep (s : State) : Reaches s s.idleStep := by
  have hqueue : ∀ (u : State) n q, Moves u { u with freeIndex := n, pending := q } := fun u n q =>
    .still (by apply Quiet.of_blocks <;> rfl) rfl
  obtain ⟨-, e⟩ | ⟨-, e⟩ := idleStep_cases s <;> rw [e]
  · exact Moves.reaches ((moves_countDown s).trans (hqueue _ _ _))
  · exact (hqueue _ _ _).reaches

/-! ## Every command -/

/-- The state at the beginning of START after a reset, with the clock as the reset leaves it (R176). -/
def State.restarted (station phase : Nat) (clock : Clock) (s : State) : State :=
  { s.powerOn station phase with clock := clock }

theorem reaches_ite {s t : State} {p : Prop} [Decidable p] (h : p → Reaches s t) :
    Reaches s (if p then t else s) := by
  split
  · exact h ‹p›
  · exact .refl

theorem reaches_wake (s : State) : Reaches s s.wake :=
  (Moves.still (t := s.wake) ⟨by constructor <;> simp, by simp [State.ownLimit]⟩ (by simp)).reaches

theorem reaches_plug (s : State) (p : Pins) : Reaches s { s with pins := p } :=
  Moves.reaches (.still (t := { s with pins := p }) (by apply Quiet.of_blocks <;> rfl) rfl)

theorem reaches_powerFailByMode (s : State) : Reaches s s.powerFailByMode := by
  have hheld : Reaches s { s with mdu.heldPwrFail := true } :=
    Moves.reaches (.still ⟨by constructor <;> rfl, rfl⟩ rfl)
  unfold State.powerFailByMode
  split
  · next h => exact reaches_takePowerFail (.inl h)
  · next h => exact reaches_takePowerFail (.inr h)
  · exact .refl
  · exact .refl
  · exact hheld
  · exact hheld

/-- Every command but the resets is a sequence of changes. -/
theorem exec_cases (c : Instr) (s : State) :
    (∃ station phase clock, exec c s = .next (s.restarted station phase clock)) ∨
    ∃ t, exec c s = .next t ∧ Reaches s t := by
  cases c with
  | powerOnReset a b => exact .inl ⟨_, _, .start, rfl⟩
  | rstn a b => exact .inl ⟨_, _, s.clock, rfl⟩
  | imageReadComplete image =>
    refine .inr ⟨_, rfl, reaches_ite fun h => ?_⟩
    have hm : s.mdu.mode = .start := by simp_all [State.readingImage]
    exact (reaches_checkImage hm image).trans (reaches_startTest _)
  | imageReadTimeout =>
    refine .inr ⟨_, rfl, ?_⟩
    split
    · next hm _ => exact reaches_ite fun _ => .trans (.single (.failImage hm)) (reaches_startTest _)
    · exact .refl
  | markerReadComplete => exact .inr ⟨_, rfl, reaches_scanFound fun _ _ h => h⟩
  | markerReadTimeout =>
    refine .inr ⟨_, rfl, ?_⟩
    split
    · exact reaches_ite fun _ => reaches_scanFound fun _ _ h => nomatch h
    · exact .refl
  | meteringSample v i meterFirst =>
    exact .inr ⟨_, rfl, reaches_ite fun _ => (moves_takeMetering s _ _ _).reaches⟩
  | lossCountReached => exact .inr ⟨_, rfl, reaches_ite fun _ => (moves_loseLine s).reaches⟩
  | rmsWindowComplete => exact .inr ⟨_, rfl, reaches_ite fun _ => Moves.reaches (moves_mfe s rfl)⟩
  | scanStart => exact .inr ⟨_, rfl, reaches_ite fun _ => Moves.reaches (moves_mfe s rfl)⟩
  | scanComplete ustr t1 t2 t3 t4 th ref meterFirst =>
    exact .inr ⟨_, rfl, reaches_ite fun _ => reaches_dormantTest s
      (Moves.reaches (.trans (moves_finishScan s _ _ _) (moves_scanConsumers _ _)))⟩
  | insulationSample code =>
    refine .inr ⟨_, rfl, ?_⟩
    split
    · next h => exact reaches_dormantTest s (reaches_takeSample h _ _)
    · exact .refl
  | busIdle => exact .inr ⟨_, rfl, reaches_ite fun _ => (moves_pbi s _).reaches⟩
  | attemptStart =>
    refine .inr ⟨_, rfl, ?_⟩
    split
    · exact (moves_pbi s _).reaches
    · exact .refl
  | collision =>
    refine .inr ⟨_, rfl, ?_⟩
    split
    · exact reaches_dormantTest s (Moves.reaches (.trans (moves_pbi s _) (moves_reportDrop _ _ _)))
    · exact .refl
  | attemptSuccess =>
    refine .inr ⟨_, rfl, ?_⟩
    split
    · exact Moves.reaches (.trans (.trans (moves_pbi s _) (moves_telegramEnds _)) (moves_reportSuccess _ _))
    · exact .refl
  | holdoffRunsOut => exact .inr ⟨_, rfl, reaches_ite fun _ => (moves_pbi s _).reaches⟩
  | telegramDiscarded =>
    refine .inr ⟨_, rfl, reaches_ite fun _ => ?_⟩
    unfold State.discard
    split
    · exact (moves_takeUpEnds s).reaches
    · exact (moves_telegramEnds s).reaches
  | beaconArrival t =>
    refine .inr ⟨_, rfl, reaches_arrive s _ t fun rx u => ?_⟩
    exact reaches_ite fun _ => (moves_standBack u).reaches
  | contractArrival t =>
    exact .inr ⟨_, rfl, reaches_arrive s _ t fun rx u => (moves_contractArrives u _ _).reaches⟩
  | haltArrival t => exact .inr ⟨_, rfl, reaches_arrive s _ t fun rx u => (moves_haltArrives u _).reaches⟩
  | injectIntentArrival t =>
    refine .inr ⟨_, rfl, reaches_arrive s _ t fun rx u => Moves.reaches (.trans ?_ (moves_standBack _))⟩
    exact .single (.quiet (by apply Quiet.of_blocks <;> rfl) (injectionSafe_congr rfl rfl rfl id))
  | isoResultArrival t =>
    refine .inr ⟨_, rfl, reaches_arrive s _ t fun rx u => Moves.reaches ?_⟩
    unfold State.peerResult
    split
    · exact (moves_classify u _).trans (moves_restartInterval _)
    · exact .refl
  | logReadArrival t =>
    refine .inr ⟨_, rfl, reaches_arrive s _ t fun rx u => ?_⟩
    exact reaches_ite fun _ => (moves_pbi u _).reaches
  | logRecordArrival t => exact .inr ⟨_, rfl, reaches_arrive s _ t fun rx u => .refl⟩
  | flagClearArrival t =>
    refine .inr ⟨_, rfl, reaches_arrive s _ t fun rx u => ?_⟩
    exact reaches_ite fun _ => reaches_clearFlags _ u
  | ownBeaconPeriod ageFirst => exact .inr ⟨_, rfl, reaches_ite fun _ => reaches_beaconPeriodFires s ageFirst⟩
  | contractLoss =>
    exact .inr ⟨_, rfl, reaches_ite fun _ => reaches_dormantTest s (moves_loseContract s).reaches⟩
  | oneSecondAdvance =>
    refine .inr ⟨_, rfl, reaches_ite fun _ => Moves.reaches (.trans ?_ (moves_meterSecond _))⟩
    exact Moves.still (by apply Quiet.of_blocks <;> rfl) rfl
  | stepBoundary => exact .inr ⟨_, rfl, reaches_ite fun _ => Moves.reaches (.single (.stepBoundary s))⟩
  | overdrawTimerExpiry =>
    refine .inr ⟨_, rfl, reaches_ite fun _ => reaches_dormantTest s (Moves.reaches ?_)⟩
    refine .trans ?_ (.trans (moves_latch _ rfl) (moves_overdrawHold _))
    exact Moves.still ⟨by constructor <;> rfl, rfl⟩ rfl
  | intervalTimerExpiry =>
    refine .inr ⟨_, rfl, ?_⟩
    repeat' split
    · exact .refl
    · next h _ => exact (moves_takeTurn (by simp [h])).reaches
    · exact .refl
  | windowTimerExpiry =>
    refine .inr ⟨_, rfl, ?_⟩
    repeat' split
    · exact .refl
    · next h _ => exact (Moves.setSeq (quiet_clearSums s) (by simp [h]) _).reaches
    · exact .refl
  | holdoffTimerExpiry =>
    refine .inr ⟨_, rfl, ?_⟩
    repeat' split
    · exact .refl
    · next h _ => exact (moves_takeTurn (by simp [h])).reaches
    · exact .refl
  | peerIntentTimerExpiry =>
    refine .inr ⟨_, rfl, reaches_ite fun _ => Moves.reaches (.single (.quiet ?_ ?_))⟩
    · apply Quiet.of_blocks <;> rfl
    · exact injectionSafe_congr rfl rfl rfl id
  | pendingTimerExpiry =>
    refine .inr ⟨_, rfl, ?_⟩
    split
    · exact reaches_ite fun _ => reaches_dormantTest s (moves_returnToIdle s).reaches
    · exact .refl
  | lineLossTimerExpiry =>
    refine .inr ⟨_, rfl, ?_⟩
    split
    · exact reaches_ite fun _ => reaches_dormantTest s (moves_endSession s _).reaches
    · exact .refl
  | storeWriteCompletion success =>
    refine .inr ⟨_, rfl, ?_⟩
    split
    · next h => exact reaches_dormantTest s (moves_writeDone h success).reaches
    · exact .refl
  | dormantTimerExpiry =>
    refine .inr ⟨_, rfl, ?_⟩
    split
    · refine reaches_ite fun _ => reaches_dormantTest s (Moves.reaches (.still ⟨?_, rfl⟩ rfl))
      constructor <;> rfl
    · exact .refl
  | telegramStartEvent => exact .inr ⟨_, rfl, reaches_ite fun _ => reaches_wake s⟩
  | plugAssertion =>
    refine .inr ⟨_, rfl, ?_⟩
    split
    · exact (reaches_plug s _).trans (reaches_wake _)
    · exact reaches_plug s _
  | plugRelease => exact .inr ⟨_, rfl, reaches_dormantTest s (reaches_plug s _)⟩
  | wakeSettlingEnd =>
    refine .inr ⟨_, rfl, reaches_ite fun h => reaches_enterListening ?_⟩
    simp [h.1, Mode.runs]
  | pwrFailAssertion => exact .inr ⟨_, rfl, (reaches_plug s _).trans (reaches_powerFailByMode _)⟩
  | pwrFailRelease => exact .inr ⟨_, rfl, reaches_plug s _⟩
  | busActivity =>
    refine .inr ⟨_, rfl, reaches_ite fun _ => ?_⟩
    unfold State.hearLevel
    split <;> exact (moves_pbi s _).reaches

/-- Every step is a reset or a sequence of changes (R176, log 1). -/
theorem step_cases {s t : State} (h : step s = .next t) :
    (∃ u : State, u.store = s.store ∧ ∃ station phase clock, t = u.restarted station phase clock) ∨ Reaches s t := by
  unfold step at h
  split at h
  · next c rest _ =>
    have hqueue : Reaches s { s with pending := rest } :=
      Moves.reaches (.still (by apply Quiet.of_blocks <;> rfl) rfl)
    obtain ⟨station, phase, clock, e⟩ | ⟨u, e, hr⟩ := exec_cases c { s with pending := rest }
    · rw [e] at h
      cases h
      exact .inl ⟨{ s with pending := rest }, rfl, station, phase, clock, rfl⟩
    · rw [e] at h
      cases h
      exact .inr (hqueue.trans hr)
  · cases h
    exact .inr (reaches_idleStep s)

end Sys2Proof.Machine
end

section
/-! PROOF. The invariants of the sequencer, of ALERT and of the peer view (O55, O59, part of O60): every change keeps
them, so that every step does. -/

namespace Sys2Proof.Machine

/-! ## What the compound changes leave alone -/

@[simp] theorem State.sessionDeparts_rest (s : State) (reason : EndReason) :
    (s.sessionDeparts reason).pins = s.pins ∧ (s.sessionDeparts reason).mdu = s.mdu ∧
    (s.sessionDeparts reason).mfe = s.mfe ∧ (s.sessionDeparts reason).pbi = s.pbi ∧
    (s.sessionDeparts reason).pvt = s.pvt ∧ (s.sessionDeparts reason).clock = s.clock ∧
    (s.sessionDeparts reason).imon = s.imon ∧ (s.sessionDeparts reason).flu = s.flu ∧
    (s.sessionDeparts reason).store = s.store ∧ (s.sessionDeparts reason).slu.table = s.slu.table ∧
    (s.sessionDeparts reason).slu.buffer = s.slu.buffer ∧
    (s.sessionDeparts reason).slu.session.isOpen = false ∧
    (s.sessionDeparts reason).slu.session.isPending = s.slu.session.isPending := by
  unfold State.sessionDeparts
  split
  · next h => simp [h, Session.isOpen, Session.isPending]
  · next h =>
    refine ⟨rfl, rfl, rfl, rfl, rfl, rfl, rfl, rfl, rfl, rfl, rfl, ?_, rfl⟩
    cases hs : s.slu.session with
    | opened r left => exact absurd hs (h r left)
    | _ => rfl

@[simp] theorem State.openSession_slu (s : State) (id : Nat) :
    (s.openSession id).slu = { s.slu with session := .opened (s.newRecord id) none } := by
  simp [State.openSession]

@[simp] theorem State.openingTest_log (s : State) :
    s.openingTest.slu.table = s.slu.table ∧ s.openingTest.slu.buffer = s.slu.buffer := by
  obtain ⟨id, left, -, -, e⟩ | e := openingTest_cases s <;> simp [e]

@[simp] theorem State.raiseFlag_slu (s : State) (f : Flag) :
    (s.raiseFlag f).slu = { s.slu with session := s.slu.session.addFlag f } := by
  simp [State.raiseFlag]

@[simp] theorem State.raiseFlag_flags (s : State) (f : Flag) :
    (s.raiseFlag f).flu.flags = FlagSet.insert s.flu.flags f := by
  simp [State.raiseFlag]

@[simp] theorem State.goPending_rest (s : State) (id : Nat) :
    (s.goPending id).pins = s.pins ∧ (s.goPending id).mdu = s.mdu ∧ (s.goPending id).pvt = s.pvt ∧
    (s.goPending id).clock = s.clock ∧ (s.goPending id).emt = s.emt ∧
    (s.goPending id).slu = { s.slu with session := .pending id pendingTime } ∧
    (s.goPending id).flu = s.flu ∧ (s.goPending id).store = s.store := by
  simp [State.goPending]

@[simp] theorem State.lineReport_log (s : State) (before : LineState) :
    (s.lineReport before).slu.table = s.slu.table ∧ (s.lineReport before).slu.buffer = s.slu.buffer := by
  unfold State.lineReport
  split <;> simp

@[simp] theorem State.thermalHoldUpdate_rest (s : State) :
    s.thermalHold.thermalUpdate.mdu = s.mdu ∧ s.thermalHold.thermalUpdate.mfe = s.mfe ∧
    s.thermalHold.thermalUpdate.pvt = s.pvt ∧ s.thermalHold.thermalUpdate.imon = s.imon ∧
    s.thermalHold.thermalUpdate.emt = s.emt ∧ s.thermalHold.thermalUpdate.slu = s.slu ∧
    s.thermalHold.thermalUpdate.flu = s.flu ∧ s.thermalHold.thermalUpdate.store = s.store := by
  simp

@[simp] theorem State.stepBoundary_rest (s : State) :
    s.stepBoundary.mdu = s.mdu ∧ s.stepBoundary.mfe = s.mfe ∧ s.stepBoundary.pvt = s.pvt ∧
    s.stepBoundary.she = s.she ∧ s.stepBoundary.imon = s.imon ∧ s.stepBoundary.emt = s.emt ∧
    s.stepBoundary.slu = s.slu ∧ s.stepBoundary.flu = s.flu ∧ s.stepBoundary.store = s.store := by
  simp [State.stepBoundary]

@[simp] theorem State.commitBuffer_rest (s : State) (b : Buffer) :
    (s.commitBuffer b).mdu = s.mdu ∧ (s.commitBuffer b).mfe = s.mfe ∧ (s.commitBuffer b).pvt = s.pvt ∧
    (s.commitBuffer b).thu = s.thu ∧ (s.commitBuffer b).she = s.she ∧ (s.commitBuffer b).imon = s.imon ∧
    (s.commitBuffer b).emt = s.emt ∧ (s.commitBuffer b).flu = s.flu ∧ (s.commitBuffer b).pbi = s.pbi ∧
    (s.commitBuffer b).clock = s.clock ∧ (s.commitBuffer b).pins = s.pins := by
  simp [State.commitBuffer]

/-- The latch of a flag other than FRONTEND and DUP_ID: nothing, or the flag with the opening test in the modes that
make it (R155, R156). -/
theorem latch_cases {f : Flag} (hf : f.bars = false ∨ f = .injector ∨ f = .config) (hne : f ≠ .frontEnd) (s : State) :
    s.latch f = s ∨ s.latch f = s.raiseFlag f ∨ s.latch f = (s.raiseFlag f).openingTest := by
  have hdup : f ≠ .dupId := by rintro rfl; simp [Flag.bars] at hf
  have hends : ∀ u : State, (u.latchEnds f = u) ∧ u.monitorLatch f = u := by
    intro u
    cases f <;> first | exact ⟨rfl, rfl⟩ | contradiction
  cases h : s.latched f
  · rw [latch_new h, (hends _).2, State.sessionLatch]
    split
    · exact .inr (.inr (by rw [(hends _).1]))
    · exact .inr (.inl rfl)
  · exact .inl (latch_again h)

@[simp] theorem State.faultEntered_rest (s : State) :
    s.faultEntered.mdu = s.mdu ∧ s.faultEntered.mfe = s.mfe ∧ s.faultEntered.pbi = s.pbi ∧
    s.faultEntered.pvt = s.pvt ∧ s.faultEntered.clock = s.clock ∧ s.faultEntered.thu = s.thu ∧
    s.faultEntered.she = s.she ∧ s.faultEntered.imon = { s.imon with insulation := .fault } ∧
    s.faultEntered.emt = s.emt ∧ s.faultEntered.slu = s.slu ∧ s.faultEntered.flu = s.flu ∧
    s.faultEntered.store = s.store := by
  simp [State.faultEntered]

@[simp] theorem State.powerHolds_rest (s : State) :
    s.powerHolds.pins = s.pins ∧ s.powerHolds.pvt = s.pvt ∧ s.powerHolds.clock = s.clock ∧
    s.powerHolds.emt = s.emt ∧ s.powerHolds.slu = s.slu ∧ s.powerHolds.flu = s.flu ∧
    s.powerHolds.store = s.store ∧
    s.powerHolds.mdu = { s.mdu with mode := .powerHold, dormantTimer := .stopped } ∧
    s.powerHolds.she = s.shareShutdown.she ∧ s.powerHolds.thu = s.thermalShutdown.thu := by
  simp [State.powerHolds, State.shareShutdown, State.thermalShutdown]

/-- What the entry into FAULT does before the session departs: the state, or the state with ISO_FAULT raised and
perhaps a session opened, each with FAULT entered and the clearance withdrawn (R115). -/
theorem isoFaultDeparts_cases (s : State) :
    ∃ u : State, s.isoFaultDeparts = { u with imon.clearance := false }.sessionDeparts .isoFault ∧
      (u = s.faultEntered ∨ u = s.faultEntered.raiseFlag .isoFault ∨
        u = (s.faultEntered.raiseFlag .isoFault).openingTest) :=
  ⟨_, rfl, latch_cases (.inl rfl) (by decide) _⟩

@[simp] theorem State.isoFaultDeparts_rest (s : State) :
    s.isoFaultDeparts.mdu = s.mdu ∧ s.isoFaultDeparts.mfe = s.mfe ∧ s.isoFaultDeparts.pvt = s.pvt ∧
    s.isoFaultDeparts.store = s.store ∧ s.isoFaultDeparts.slu.table = s.slu.table ∧
    s.isoFaultDeparts.slu.buffer = s.slu.buffer ∧ s.isoFaultDeparts.slu.session.isOpen = false ∧
    s.isoFaultDeparts.imon = { s.imon with insulation := .fault, clearance := false } := by
  obtain ⟨u, e, rfl | rfl | rfl⟩ := isoFaultDeparts_cases s <;> simp [e]

@[simp] theorem State.beginListening_rest (s : State) :
    s.beginListening.pins = s.pins ∧ s.beginListening.pvt = s.pvt ∧ s.beginListening.clock = s.clock ∧
    s.beginListening.store = s.store ∧ s.beginListening.mdu.mode = .listening ∧
    s.beginListening.mdu.station = s.mdu.station ∧ s.beginListening.mdu.cfg = s.mdu.cfg ∧
    s.beginListening.mdu.phase = s.mdu.phase := by
  simp [State.beginListening]

/-! ## The sequencer (R94, R96, R104) -/

theorem sequencerBarred_raiseFlag {f : Flag} (hf : f.bars = false) (s : State) :
    (s.raiseFlag f).sequencerBarred = s.sequencerBarred := by
  revert hf
  cases f <;> simp [Flag.bars, State.sequencerBarred, raiseFlag_latched]

theorem isoFaultDeparts_barred (s : State) : s.isoFaultDeparts.sequencerBarred = s.sequencerBarred := by
  have hraise := sequencerBarred_raiseFlag (f := .isoFault) rfl s.faultEntered
  obtain ⟨u, e, rfl | rfl | rfl⟩ := isoFaultDeparts_cases s
  · exact sequencerBarred_congr (by simp [e]) (by simp [e])
  · exact (sequencerBarred_congr (by simp [e]) (by simp [e])).trans hraise
  · exact (sequencerBarred_congr (by simp [e]) (by simp [e])).trans hraise

/-- No move changes what holds the sequencer OFF. -/
theorem Move.barred {s t : State} (h : Move s t) : t.sequencerBarred = s.sequencerBarred := by
  cases h with
  | quiet h _ => exact h.barred
  | recompute h _ => simpa [State.sequencerBarred, State.latched] using h.barred
  | raise h _ f hf => rw [sequencerBarred_raiseFlag hf, h.barred]
  | isoFault => exact isoFaultDeparts_barred s
  | _ => exact sequencerBarred_congr (by simp) (by simp)

/-- The entry into PENDING leaves the sequencer, or shortens its wait (R100). -/
theorem goPending_sequencer (s : State) (id : Nat) :
    ((s.goPending id).imon.seq = s.imon.seq ∧ (s.goPending id).imon.isoSw = s.imon.isoSw ∧
      (s.goPending id).imon.injecting = s.imon.injecting) ∨
    ∃ left left', s.imon.seq = .waiting left ∧ (s.goPending id).imon.seq = .waiting left' ∧
      (s.goPending id).imon.isoSw = .opened ∧ (s.goPending id).imon.injecting = false := by
  unfold State.goPending State.monitorPending
  split
  · next left hq => exact .inr ⟨left, _, by simpa using hq, rfl, rfl, rfl⟩
  · exact .inl (by simp)

theorem Move.injectionSafe {s t : State} (h : Move s t) (hs : s.InjectionSafe) : t.InjectionSafe := by
  have hbar : t.sequencerBarred = true → s.sequencerBarred = true := by rw [h.barred]; exact id
  cases h with
  | quiet _ hi => exact hi hs
  | recompute _ himon => exact injectionSafe_congr (by simp [himon]) (by simp [himon]) (by simp [himon]) hbar hs
  | raise _ himon => exact injectionSafe_congr (by simp [himon]) (by simp [himon]) (by simp [himon]) hbar hs
  | goPending _ id =>
    obtain ⟨hsw, hflag, hoff⟩ := hs
    obtain ⟨eseq, esw, eflag⟩ | ⟨left, left', hq, hq', hsw', hflag'⟩ := goPending_sequencer s id
    · exact injectionSafe_congr eseq esw eflag hbar ⟨hsw, hflag, hoff⟩
    · refine ⟨by rw [hsw', hq']; rfl, by rw [hflag', hq']; rfl, fun hb => ?_⟩
      have := hoff (hbar hb)
      simp [hq] at this
  | _ => exact injectionSafe_congr (by simp) (by simp) (by simp) hbar hs

theorem moves_barred {s t : State} (h : Moves s t) : t.sequencerBarred = s.sequencerBarred :=
  h.keeps (I := fun u => u.sequencerBarred = s.sequencerBarred) (fun hm hu => hm.barred.trans hu) rfl

theorem sequencerOff_injectionSafe (s : State) : s.sequencerOff.InjectionSafe := by
  obtain ⟨hseq, hflag, hsw, -⟩ := sequencerOff_spec s
  simp [State.InjectionSafe, hseq, hflag, hsw, Seq.switch, Seq.flag]

/-- A change of mode leaves the sequencer OFF but for RUN, where it may leave OFF (R96). -/
theorem modeReport_injectionSafe {s : State} (h : s.mdu.mode = .run → s.InjectionSafe) :
    s.modeReport.InjectionSafe := by
  have hmonitor : s.shareMode.applyDuty.monitorMode.InjectionSafe := by
    unfold State.monitorMode
    split
    · next hrun =>
      refine (moves_leaveOff _).keeps Move.injectionSafe ?_
      have hbar : s.shareMode.applyDuty.sequencerBarred = s.sequencerBarred := sequencerBarred_congr (by simp) (by simp)
      exact injectionSafe_congr (by simp) (by simp) (by simp) (by simp [hbar]) (h (by simpa using hrun))
    · exact sequencerOff_injectionSafe _
  exact (moves_openingTest _).keeps Move.injectionSafe hmonitor

/-- Flags taken out hold the sequencer OFF no more than before. -/
theorem sequencerBarred_of_dropFlags {s : State} {l : List Flag} (h : (s.dropFlags l).sequencerBarred = true) :
    s.sequencerBarred = true := by
  revert h
  simp only [State.sequencerBarred, State.dropFlags_rest, dropFlags_latched, Bool.or_eq_true, Bool.and_eq_true]
  tauto

theorem Change.injectionSafe {s t : State} (h : Change s t) (hs : s.InjectionSafe) : t.InjectionSafe := by
  obtain ⟨hsw, hflag, hoff⟩ := hs
  cases h with
  | move h => exact h.injectionSafe ⟨hsw, hflag, hoff⟩
  | clear l =>
    refine (moves_openingTest _).keeps Move.injectionSafe ?_
    exact injectionSafe_congr (by simp) (by simp) (by simp) sequencerBarred_of_dropFlags ⟨hsw, hflag, hoff⟩
  | dupId => exact sequencerOff_injectionSafe _
  | injector h => exact sequencerOff_injectionSafe _
  | measured hseq h hm =>
    refine ⟨by simp [State.enterWaiting], by simp [State.enterWaiting], fun hb => ?_⟩
    rw [(quiet_enterWaiting _).barred, moves_barred hm, h.barred] at hb
    simp [hseq] at hoff
    simp [hoff] at hb
  | configure h => exact injectionSafe_congr rfl rfl rfl id ⟨hsw, hflag, hoff⟩
  | failImage h =>
    have hbar : s.sequencerBarred = true := by simp [State.sequencerBarred, h]
    exact injectionSafe_congr (by simp) (by simp) (by simp) (fun _ => hbar) ⟨hsw, hflag, hoff⟩
  | scanSlot h => exact injectionSafe_congr rfl rfl rfl id ⟨hsw, hflag, hoff⟩
  | listening h => exact modeReport_injectionSafe fun hrun => by simp at hrun
  | configHold h => exact modeReport_injectionSafe fun hrun => by simp at hrun
  | run h =>
    have hq : s.imon.seq = .off := hoff (by simp [State.sequencerBarred, h])
    exact modeReport_injectionSafe fun _ => ⟨hsw, hflag, fun _ => hq⟩
  | powerFail h =>
    have hoff' : s.powerHolds.InjectionSafe := sequencerOff_injectionSafe _
    have hbar : s.powerDeparts.sequencerBarred = s.powerHolds.sequencerBarred :=
      sequencerBarred_congr (by simp [State.powerDeparts]) (by simp [State.powerDeparts])
    exact injectionSafe_congr (by simp [State.powerDeparts]) (by simp [State.powerDeparts])
      (by simp [State.powerDeparts]) (by rw [hbar]; exact id) hoff'
  | dormant h => simp [State.InjectionSafe, State.enterDormant, Monitor.dormant, Seq.switch, Seq.flag]

/-- Settles O55: a reset leaves the sequencer OFF, and no change takes it out of its form. -/
theorem injectionKept : Obligations.InjectionKept := by
  intro s t hs hstep
  obtain ⟨u, -, station, phase, clock, rfl⟩ | hr := step_cases hstep
  · exact ⟨rfl, rfl, fun _ => rfl⟩
  · exact hr.keeps Change.injectionSafe hs

/-! ## ALERT (R157, R158) -/

theorem raiseFlag_alertSafe (s : State) (f : Flag) : (s.raiseFlag f).AlertSafe := by
  rw [alertSafe_iff]
  simp [State.raiseFlag, State.alertLevel, State.maskInForce]

theorem Move.alertSafe {s t : State} (h : Move s t) (hs : s.AlertSafe) : t.AlertSafe := by
  cases h with
  | quiet h => exact alertSafe_congr h.mode h.cfg h.flu hs
  | recompute h => exact alertSafe_congr (by simp [h.mode]) (by simp [h.cfg]) (by simp [h.flu]) hs
  | raise => exact raiseFlag_alertSafe _ _
  | isoFault =>
    obtain ⟨u, e, rfl | rfl | rfl⟩ := isoFaultDeparts_cases s
    · exact alertSafe_congr (by simp [e]) (by simp [e]) (by simp [e]) hs
    · exact alertSafe_congr (by simp [e]) (by simp [e]) (by simp [e]) (raiseFlag_alertSafe s.faultEntered .isoFault)
    · exact alertSafe_congr (by simp [e]) (by simp [e]) (by simp [e]) (raiseFlag_alertSafe s.faultEntered .isoFault)
  | _ => exact alertSafe_congr (by simp) (by simp) (by simp) hs

theorem modeReport_alertSafe {s : State} (h : s.AlertSafe) : s.modeReport.AlertSafe :=
  alertSafe_congr (by simp) (by simp) (by simp) h

/-- ALERT driven anew is right, whatever it was (R158). -/
theorem updateAlert_alertSafe (s : State) : s.updateAlert.AlertSafe := (alertSafe_iff _).2 rfl

/-- Outside START and CONFIG_HOLD the mask is the image's, so that ALERT stands over a change among these modes. -/
theorem alertSafe_mode {s t : State} (hcfg : t.mdu.cfg = s.mdu.cfg) (hflu : t.flu = s.flu)
    (hs : s.mdu.mode ≠ .start ∧ s.mdu.mode ≠ .configHold) (ht : t.mdu.mode ≠ .start ∧ t.mdu.mode ≠ .configHold)
    (h : s.AlertSafe) : t.AlertSafe := by
  revert h
  cases hm : s.mdu.mode <;> cases hm' : t.mdu.mode <;> simp_all [State.AlertSafe]

theorem Change.alertSafe {s t : State} (h : Change s t) (hs : s.AlertSafe) : t.AlertSafe := by
  cases h with
  | move h => exact h.alertSafe hs
  | clear l => exact alertSafe_congr (by simp) (by simp) (by simp) (dropFlags_alertSafe s l)
  | dupId => exact alertSafe_congr (by simp) (by simp) (by simp) (raiseFlag_alertSafe s .dupId)
  | @injector u h =>
    have hu : u.AlertSafe := alertSafe_congr h.mode h.cfg h.flu hs
    have hlatch : (u.latch .injector).AlertSafe := by
      obtain e | e | e := latch_cases (f := .injector) (.inr (.inl rfl)) (by decide) u <;> rw [e]
      · exact hu
      · exact raiseFlag_alertSafe _ _
      · exact (moves_openingTest _).keeps Move.alertSafe (raiseFlag_alertSafe _ _)
    exact alertSafe_congr (by simp [State.injectorFails]) (by simp [State.injectorFails])
      (by simp [State.injectorFails]) hlatch
  | measured _ h hm =>
    have hu := hm.keeps Move.alertSafe (alertSafe_congr h.mode h.cfg h.flu hs)
    exact alertSafe_congr (by simp) (by simp) (by simp) hu
  | configure h => simpa [State.AlertSafe, h] using hs
  | failImage h => simpa [State.AlertSafe, h] using hs
  | scanSlot h => simpa [State.AlertSafe, h, State.scanSlot] using hs
  | listening h => exact modeReport_alertSafe (updateAlert_alertSafe _)
  | configHold h => exact modeReport_alertSafe (updateAlert_alertSafe _)
  | run h =>
    exact alertSafe_mode (by simp [State.enterRun]) (by simp) (by simp [h]) (by simp [State.enterRun]) hs
  | powerFail h =>
    have hmode : s.mdu.mode ≠ .start ∧ s.mdu.mode ≠ .configHold := by obtain h | h := h <;> simp [h]
    exact alertSafe_mode (by simp [State.powerDeparts]) (by simp [State.powerDeparts]) hmode
      (by simp [State.powerDeparts]) hs
  | dormant h =>
    have hrun : s.mdu.mode = .run := by simp_all [State.dormantReady]
    exact alertSafe_mode (by simp [State.enterDormant]) (by simp) (by simp [hrun]) (by simp [State.enterDormant]) hs

/-- Settles O59, through the changes of a step; a reset releases ALERT in START. -/
theorem alertKept : Obligations.AlertKept := by
  intro s t hs h
  obtain ⟨u, -, station, phase, clock, rfl⟩ | hr := step_cases h
  · rfl
  · exact hr.keeps Change.alertSafe hs

end Sys2Proof.Machine
end

section
/-! PROOF. Heating (O56): the duty in force is formed anew after every change of its gate, and HTR follows it. -/

namespace Sys2Proof.Machine

@[simp] theorem State.dropFlags_blocks (s : State) (l : List Flag) :
    (s.dropFlags l).pins = s.pins ∧ (s.dropFlags l).thu = s.thu ∧ (s.dropFlags l).she = s.she ∧
    (s.dropFlags l).emt = s.emt := by
  simp [State.dropFlags]

@[simp] theorem State.startWrite_session (s : State) (r : SessionRecord) (failed : Option (Fin 16)) :
    (s.startWrite r failed).slu.session = s.slu.session := rfl

/-! ## The duty in force (R68, R69) -/

/-- HTR closed below the duty in force alone, whatever the duty in force is (R69). -/
def State.HtrSafe (s : State) : Prop := s.thu.htr = true → s.thu.step < s.thu.inForce

theorem heaterSafe_congr {s t : State} (hforce : t.thu.inForce = s.thu.inForce) (hheater : t.thu.heater = s.thu.heater)
    (hstep : t.thu.step = s.thu.step) (hhtr : t.thu.htr = s.thu.htr)
    (hopen : t.slu.session.isOpen = s.slu.session.isOpen) (hmode : t.mdu.mode = s.mdu.mode)
    (hduty : t.she.dutyApplied = s.she.dutyApplied) (h : s.HeaterSafe) : t.HeaterSafe := by
  unfold State.HeaterSafe at *
  rwa [hforce, hheater, hstep, hhtr, hopen, hmode, hduty]

theorem Aside.heaterSafe {s t : State} (h : Aside s t) (hs : s.HeaterSafe) : t.HeaterSafe :=
  heaterSafe_congr h.inForce h.heater h.step h.htr h.isOpen h.mode h.dutyApplied hs

/-- The duty in force formed anew is right whatever it was: a fall to the step index or below opens HTR (R70). -/
theorem applyDuty_heaterSafe {s : State} (h : s.HtrSafe) : s.applyDuty.HeaterSafe := by
  refine ⟨by simp [State.gatedDuty], fun hh => ?_⟩
  simp only [State.applyDuty_fields, Bool.and_eq_true, Bool.not_eq_true', Bool.and_eq_false_iff,
    decide_eq_false_iff_not] at hh ⊢
  have := h hh.1
  omega

theorem convert_heaterSafe {s : State} (h : s.HtrSafe) : s.convert.HeaterSafe := applyDuty_heaterSafe h

/-- A recomputation leaves the thermal unit, or forms the duty in force anew. -/
theorem recompute_heaterSafe {s : State} (h : s.HeaterSafe) : s.recompute.HeaterSafe := by
  obtain ⟨-, e⟩ | ⟨-, e⟩ := recompute_cases s
  · rwa [e]
  · rw [e]
    exact convert_heaterSafe (by simpa [State.HtrSafe] using h.2)

theorem recompute_htrSafe {s : State} (h : s.HtrSafe) : s.recompute.HtrSafe := by
  obtain ⟨-, e⟩ | ⟨-, e⟩ := recompute_cases s
  · rwa [e]
  · rw [e]
    exact (convert_heaterSafe (by simpa [State.HtrSafe] using h)).2

theorem raiseFlag_heaterSafe {s : State} (h : s.HeaterSafe) (f : Flag) : (s.raiseFlag f).HeaterSafe :=
  recompute_heaterSafe (heaterSafe_congr (by simp) (by simp) (by simp) (by simp) (by simp) (by simp) (by simp) h)

theorem shareLeavesOpen_heaterSafe {s : State} (h : s.HeaterSafe) : s.shareLeavesOpen.HeaterSafe :=
  recompute_heaterSafe
    (heaterSafe_congr (s := s) (by simp) (by simp) (by simp) (by simp) (by simp) (by simp) (by simp) h)

/-- The departure of the session forms the duty in force anew with the gate closed (R68). -/
theorem sessionDeparts_heaterSafe {s : State} (h : s.HeaterSafe) (reason : EndReason) :
    (s.sessionDeparts reason).HeaterSafe := by
  unfold State.sessionDeparts
  split
  · exact shareLeavesOpen_heaterSafe (applyDuty_heaterSafe (by simpa [State.HtrSafe] using h.2))
  · exact h

theorem Session.lineChanged_isOpen (before after : LineState) (x : Session) :
    (x.lineChanged before after).isOpen = x.isOpen := by
  cases x with
  | opened r left =>
    simp only [Session.lineChanged]
    split
    · rfl
    · split <;> rfl
  | _ => rfl

theorem openSession_heaterSafe {s : State} (h : s.HtrSafe) (id : Nat) : (s.openSession id).HeaterSafe :=
  applyDuty_heaterSafe (recompute_htrSafe (by simpa [State.HtrSafe] using h))

theorem openingTest_heaterSafe {s : State} (h : s.HeaterSafe) : s.openingTest.HeaterSafe := by
  obtain ⟨id, left, -, -, e⟩ | e := openingTest_cases s <;> rw [e]
  · exact openSession_heaterSafe h.2 id
  · exact h

/-- A change of the line state may lower the claim, and may open a session (R9, R138). -/
theorem lineReport_heaterSafe {s : State} (h : s.HeaterSafe) (before : LineState) :
    (s.lineReport before).HeaterSafe := by
  have habsent : s.overdrawAbsent.HeaterSafe :=
    heaterSafe_congr (by simp) (by simp) (by simp) (by simp) (by simp) (by simp)
      (by simp [State.overdrawAbsent, apply_ite]) h
  have hline : (s.shareLine before).HeaterSafe := by
    unfold State.shareLine
    split
    · exact recompute_heaterSafe
        (heaterSafe_congr (by simp) (by simp) (by simp) (by simp) (by simp) (by simp) (by simp) habsent)
    · exact habsent
  unfold State.lineReport
  split
  · exact h
  · exact openingTest_heaterSafe
      (heaterSafe_congr (by simp) (by simp) (by simp) (by simp) (by simp [Session.lineChanged_isOpen]) (by simp)
        (by simp) hline)

theorem Move.heaterSafe {s t : State} (h : Move s t) (hs : s.HeaterSafe) : t.HeaterSafe := by
  cases h with
  | quiet h => exact h.heaterSafe hs
  | recompute h => exact recompute_heaterSafe (h.heaterSafe hs)
  | raise h => exact raiseFlag_heaterSafe (h.heaterSafe hs) _
  | applyDuty => exact applyDuty_heaterSafe hs.2
  | convert => exact convert_heaterSafe hs.2
  | periodClaim view =>
    unfold State.periodClaim
    split
    · exact heaterSafe_congr (by simp) (by simp) (by simp) (by simp) (by simp) (by simp) (by simp) hs
    · exact convert_heaterSafe (by simpa [State.HtrSafe] using hs.2)
  | beaconSent claim =>
    unfold State.beaconSent
    split
    · exact heaterSafe_congr rfl rfl rfl rfl rfl rfl rfl hs
    · exact convert_heaterSafe hs.2
  | setHeater => exact applyDuty_heaterSafe hs.2
  | thermalHold => exact convert_heaterSafe (by simp [State.HtrSafe, State.thermalHold])
  | stepBoundary => exact ⟨hs.1, by simp [State.stepBoundary]⟩
  | line =>
    refine lineReport_heaterSafe ?_ _
    exact hs
  | openSession => exact openSession_heaterSafe hs.2 _
  | departs => exact sessionDeparts_heaterSafe hs _
  | idle h => exact heaterSafe_congr (s := s) rfl rfl rfl rfl h.symm rfl rfl hs
  | goPending h id =>
    have hr : (State.recompute { s with slu.session := .pending id pendingTime }).HeaterSafe :=
      recompute_heaterSafe (heaterSafe_congr (s := s) rfl rfl rfl rfl h.symm rfl rfl hs)
    exact heaterSafe_congr (by simp [State.goPending]) (by simp [State.goPending]) (by simp [State.goPending])
      (by simp [State.goPending]) (by simp [State.goPending]) (by simp [State.goPending]) (by simp [State.goPending]) hr
  | clearanceOn h => exact openingTest_heaterSafe (heaterSafe_congr (s := s) rfl rfl rfl rfl rfl rfl rfl hs)
  | isoFault =>
    have hf : s.faultEntered.HeaterSafe := heaterSafe_congr (s := s) rfl rfl rfl rfl rfl rfl rfl hs
    obtain ⟨u, e, rfl | rfl | rfl⟩ := isoFaultDeparts_cases s <;> rw [e] <;>
      refine sessionDeparts_heaterSafe (heaterSafe_congr rfl rfl rfl rfl rfl rfl rfl ?_) _
    · exact hf
    · exact raiseFlag_heaterSafe hf _
    · exact openingTest_heaterSafe (raiseFlag_heaterSafe hf _)
  | _ => exact heaterSafe_congr (by simp) (by simp) (by simp) (by simp) (by simp) (by simp) (by simp) hs

/-- The report of a change of mode forms the duty in force anew (R68). -/
theorem modeReport_heaterSafe {s : State} (h : s.HtrSafe) : s.modeReport.HeaterSafe := by
  have hshare : s.shareMode.HtrSafe := by
    unfold State.shareMode State.shareLeavesRun
    split
    · exact recompute_htrSafe h
    · exact recompute_htrSafe (by simpa [State.HtrSafe] using h)
  have hduty := applyDuty_heaterSafe hshare
  exact openingTest_heaterSafe
    (heaterSafe_congr (by simp) (by simp) (by simp) (by simp) (by simp) (by simp) (by simp) hduty)

theorem Change.heaterSafe {s t : State} (h : Change s t) (hs : s.HeaterSafe) : t.HeaterSafe := by
  have hstart : ∀ u : State, u.thu.htr = false → u.HtrSafe := fun u hu => by simp [State.HtrSafe, hu]
  cases h with
  | move h => exact h.heaterSafe hs
  | clear l =>
    refine openingTest_heaterSafe ?_
    exact heaterSafe_congr (by simp) (by simp) (by simp) (by simp) (by simp) (by simp) (by simp) hs
  | dupId =>
    exact heaterSafe_congr (by simp) (by simp) (by simp) (by simp) (by simp) (by simp) (by simp)
      (raiseFlag_heaterSafe hs .dupId)
  | @injector u h =>
    have hu : u.HeaterSafe := h.heaterSafe hs
    have hlatch : (u.latch .injector).HeaterSafe := by
      obtain e | e | e := latch_cases (f := .injector) (.inr (.inl rfl)) (by decide) u <;> rw [e]
      · exact hu
      · exact raiseFlag_heaterSafe hu _
      · exact openingTest_heaterSafe (raiseFlag_heaterSafe hu _)
    exact heaterSafe_congr (by simp [State.injectorFails]) (by simp [State.injectorFails])
      (by simp [State.injectorFails]) (by simp [State.injectorFails]) (by simp [State.injectorFails])
      (by simp [State.injectorFails]) (by simp [State.injectorFails]) hlatch
  | measured _ h hm =>
    have hu := hm.keeps Move.heaterSafe (h.heaterSafe hs)
    exact heaterSafe_congr (by simp) (by simp) (by simp) (by simp) (by simp) (by simp) (by simp) hu
  | configure | failImage | scanSlot => exact heaterSafe_congr rfl rfl rfl rfl rfl rfl rfl hs
  | listening | configHold => exact modeReport_heaterSafe (hstart _ (by simp [State.startConverters, Thermal.start]))
  | run => exact modeReport_heaterSafe hs.2
  | powerFail h =>
    refine sessionDeparts_heaterSafe ⟨?_, by simp⟩ _
    simp
  | dormant => exact ⟨by simp [State.enterDormant, Thermal.start], by simp [State.enterDormant, Thermal.start]⟩

/-- Settles O56: a reset leaves HTR open and the duty 0, and every change forms the duty anew where its gate moves. -/
theorem heaterKept : Obligations.HeaterKept := by
  intro s t hs h
  obtain ⟨u, -, station, phase, clock, rfl⟩ | hr := step_cases h
  · exact ⟨rfl, nofun⟩
  · exact hr.keeps Change.heaterSafe hs

end Sys2Proof.Machine
end

section
/-! PROOF. Charging (O57): a recomputation of the claim makes the charging figures right from any figures in their form,
and every change that may bar the claim recomputes it. -/

namespace Sys2Proof.Machine

/-! ## What a report to the monitor leaves of the line and the insulation state -/

@[simp] theorem State.monitorPending_stands (s : State) :
    s.monitorPending.mfe.line = s.mfe.line ∧ s.monitorPending.imon.insulation = s.imon.insulation ∧
    s.monitorPending.imon.clearance = false := by
  unfold State.monitorPending
  split <;> simp

@[simp] theorem State.sequencerOff_stands (s : State) :
    s.sequencerOff.mfe.line = s.mfe.line ∧ s.sequencerOff.imon.insulation = s.imon.insulation ∧
    s.sequencerOff.imon.clearance = s.imon.clearance := by
  unfold State.sequencerOff
  split <;> simp

@[simp] theorem State.monitorMode_stands (s : State) :
    s.monitorMode.mfe.line = s.mfe.line ∧ s.monitorMode.imon.insulation = s.imon.insulation ∧
    s.monitorMode.imon.clearance = s.imon.clearance := by
  unfold State.monitorMode State.leaveOff
  repeat' split
  all_goals simp [State.enterWaiting]

@[simp] theorem State.goPending_stands (s : State) (id : Nat) :
    (s.goPending id).mfe.line = s.mfe.line ∧ (s.goPending id).imon.insulation = s.imon.insulation ∧
    (s.goPending id).imon.clearance = false := by
  simp [State.goPending]

/-! ## The share engine's figures in their form (R74, R83, R87, R88) -/

/-- What the share engine keeps whatever the rest of the machine does: the drawn claim, the wanting flag, and the
outputs that follow them. -/
def Share.Formed (e : Share) : Prop :=
  e.drawn = min e.claim e.claimTx ∧ e.wanting = decide (e.claim < e.demand) ∧
  (e.drawn = 0 → e.dutyApplied = 0 ∧ e.phApplied = 0 ∧ e.idcSet = 0) ∧
  e.chgEn = decide (0 < e.idcSet) ∧ e.iRef = e.idcSet

/-- What bounds the claim: the zeroing conditions, Cmax and the pool (R79). -/
def State.ClaimBound (s : State) : Prop :=
  (s.claimBarred = true → s.she.claim = 0) ∧ s.she.claim ≤ s.mdu.cfg.cmax ∧
  s.she.claim ≤ s.ownLimit - s.mdu.cfg.margin

theorem chargeSafe_iff (s : State) : s.ChargeSafe ↔ s.she.Formed ∧ s.ClaimBound := by
  constructor
  · rintro ⟨hd, hw, hb, hc, hp, ho, he, hi⟩
    exact ⟨⟨hd, hw, ho, he, hi⟩, hb, hc, hp⟩
  · rintro ⟨⟨hd, hw, ho, he, hi⟩, hb, hc, hp⟩
    exact ⟨hd, hw, hb, hc, hp, ho, he, hi⟩

/-- With nothing claimed nothing bounds the claim. -/
theorem chargeSafe_of_unclaimed {s : State} (h : s.she.Formed) (hc : s.she.claim = 0) : s.ChargeSafe :=
  (chargeSafe_iff s).2 ⟨h, fun _ => hc, by omega, by omega⟩

theorem formed_congr {e e' : Share} (hdemand : e'.demand = e.demand) (hwant : e'.wanting = e.wanting)
    (hclaim : e'.claim = e.claim) (htx : e'.claimTx = e.claimTx) (hdrawn : e'.drawn = e.drawn)
    (hduty : e'.dutyApplied = e.dutyApplied) (hph : e'.phApplied = e.phApplied) (hidc : e'.idcSet = e.idcSet)
    (hen : e'.chgEn = e.chgEn) (href : e'.iRef = e.iRef) (h : e.Formed) : e'.Formed := by
  unfold Share.Formed at *
  rwa [hdemand, hwant, hclaim, htx, hdrawn, hduty, hph, hidc, hen, href]

/-- The bounds stand over a change that lifts no bar, no limit and no configuration. -/
theorem claimBound_congr {s t : State} (hcfg : t.mdu.cfg = s.mdu.cfg) (hlimit : t.ownLimit = s.ownLimit)
    (hbar : t.claimBarred = true → s.claimBarred = true) (hclaim : t.she.claim = s.she.claim) (h : s.ClaimBound) :
    t.ClaimBound := by
  unfold State.ClaimBound at *
  rw [hcfg, hlimit, hclaim]
  exact ⟨fun hb => h.1 (hbar hb), h.2⟩

theorem claimBarred_congr {s t : State} (hmode : t.mdu.mode = s.mdu.mode)
    (hopen : t.slu.session.isOpen = s.slu.session.isOpen) (hline : t.mfe.line = s.mfe.line)
    (hins : t.imon.insulation = s.imon.insulation) (hflags : t.flu.flags = s.flu.flags) :
    t.claimBarred = s.claimBarred := by
  simp [State.claimBarred, State.latched, hmode, hopen, hline, hins, hflags]

theorem ownLimit_congr {s t : State} (hrecord : t.pvt.record = s.pvt.record) (hphase : t.mdu.phase = s.mdu.phase) :
    t.ownLimit = s.ownLimit := by
  simp [State.ownLimit, hrecord, hphase]

theorem chargeSafe_congr {s t : State} (hshe : t.she = s.she) (hmdu : t.mdu = s.mdu) (hpvt : t.pvt = s.pvt)
    (hopen : t.slu.session.isOpen = s.slu.session.isOpen) (hline : t.mfe.line = s.mfe.line)
    (hins : t.imon.insulation = s.imon.insulation) (hflags : t.flu.flags = s.flu.flags) (h : s.ChargeSafe) :
    t.ChargeSafe := by
  rw [chargeSafe_iff] at *
  have hbar := claimBarred_congr (by rw [hmdu]) hopen hline hins hflags
  exact ⟨by rw [hshe]; exact h.1,
    claimBound_congr (by rw [hmdu]) (ownLimit_congr (by rw [hpvt]) (by rw [hmdu])) (by rw [hbar]; exact id)
      (by rw [hshe]) h.2⟩

theorem formed_of_chargeSafe {s : State} (h : s.ChargeSafe) : s.she.Formed := ((chargeSafe_iff s).1 h).1

theorem claimBound_of_chargeSafe {s : State} (h : s.ChargeSafe) : s.ClaimBound := ((chargeSafe_iff s).1 h).2

theorem Aside.formed {s t : State} (h : Aside s t) (hs : s.she.Formed) : t.she.Formed :=
  formed_congr h.demand h.wanting h.claim h.claimTx h.drawn h.dutyApplied h.phApplied h.idcSet h.chgEn h.iRef hs

theorem Aside.claimBarred {s t : State} (h : Aside s t) : t.claimBarred = s.claimBarred :=
  claimBarred_congr h.mode h.isOpen h.line h.insulation (by rw [h.flu])

theorem Quiet.chargeSafe {s t : State} (h : Quiet s t) (hs : s.ChargeSafe) : t.ChargeSafe :=
  (chargeSafe_iff t).2 ⟨h.toAside.formed (formed_of_chargeSafe hs),
    claimBound_congr h.cfg h.limit (by rw [h.toAside.claimBarred]; exact id) h.claim (claimBound_of_chargeSafe hs)⟩

/-- Under a zeroing condition nothing is claimed. -/
theorem unclaimed_of_chargeSafe {s : State} (h : s.ChargeSafe) (hb : s.claimBarred = true) : s.she.claim = 0 :=
    (claimBound_of_chargeSafe h).1 hb

theorem claimBarred_of_mode {s : State} (h : s.mdu.mode ≠ .run) : s.claimBarred = true := by
  simp [State.claimBarred, h]

theorem claimBarred_of_closed {s : State} (h : s.slu.session.isOpen = false) : s.claimBarred = true := by
  simp [State.claimBarred, h]

theorem claimBarred_of_line {s : State} (h : s.mfe.line ≠ .good) : s.claimBarred = true := by
  simp [State.claimBarred, h]

/-! ## The conversion and the recomputation (R81, R85 to R88) -/

/-- A conversion with nothing drawn sets the outputs to 0 (R85, R87). -/
theorem outputs_of_undrawn {s : State} (h : s.she.drawn = 0) : s.dutyNow = 0 ∧ s.phNow = 0 ∧ s.idcNow = 0 := by
  have hdc : s.pDc = 0 := by simp [State.pDc, State.pIn, h]
  have hduty : s.dutyNow = 0 := by simp [State.dutyNow, dutyAllowed, hdc]
  exact ⟨hduty, by simp [State.phNow, hduty], by simp [State.idcNow, setpoint, hdc]⟩

theorem convert_formed {s : State} (hd : s.she.drawn = min s.she.claim s.she.claimTx)
    (hw : s.she.wanting = decide (s.she.claim < s.she.demand)) : s.convert.she.Formed := by
  rw [convert_spec]
  exact ⟨hd, hw, fun h0 => outputs_of_undrawn h0, rfl, rfl⟩

theorem convert_chargeSafe {s : State} (h : s.ChargeSafe) : s.convert.ChargeSafe :=
  (chargeSafe_iff _).2 ⟨convert_formed h.1 h.2.1,
    claimBound_congr (s := s) (by simp) (ownLimit_congr (by simp) (by simp))
      (by rw [claimBarred_congr (s := s) (by simp) (by simp) (by simp) (by simp) (by simp)]; exact id)
      (by rw [convert_spec]) (claimBound_of_chargeSafe h)⟩

theorem setDemand_formed {s : State} (h : s.she.Formed) (d : Nat) : (s.setDemand d).she.Formed :=
  ⟨h.1, rfl, h.2.2⟩

theorem computedClaim_bound {s t : State} (view : List Entry) (hclaim : t.she.claim ≤ s.computedClaim view)
    (hcfg : t.mdu.cfg = s.mdu.cfg) (hlimit : t.ownLimit = s.ownLimit) (hbar : t.claimBarred = s.claimBarred) :
    t.ClaimBound := by
  obtain ⟨-, hc, hp⟩ := computedClaim_le s view
  refine ⟨fun hb => ?_, ?_, ?_⟩
  · rw [hbar] at hb
    have := computedClaim_barred hb view
    omega
  · rw [hcfg]; omega
  · rw [hcfg, hlimit]; omega

/-- A recomputation bounds the claim anew (R79, R81). -/
theorem recompute_chargeSafe {s : State} (h : s.she.Formed) : s.recompute.ChargeSafe := by
  rw [chargeSafe_iff]
  obtain ⟨hle, e⟩ | ⟨hlt, e⟩ := recompute_cases s <;> rw [e]
  · exact ⟨h, computedClaim_bound _ hle rfl rfl rfl⟩
  · refine ⟨convert_formed (by simp) (by simp), computedClaim_bound (s := s) s.pvt.view ?_ (by simp) ?_ ?_⟩
    · simp [convert_spec]
    · exact ownLimit_congr (by simp) (by simp)
    · exact claimBarred_congr (by simp) (by simp) (by simp) (by simp) (by simp)

/-- The claim computation of a beacon period bounds the claim anew (R80). -/
theorem periodClaim_chargeSafe {s : State} (h : s.she.Formed) (view : List Entry) :
    (s.periodClaim view).ChargeSafe := by
  have hbound : (s.setClaim (s.computedClaim view)).ClaimBound :=
    computedClaim_bound (s := s) view (by simp) (by simp) (ownLimit_congr (by simp) (by simp))
      (claimBarred_congr (by simp) (by simp) (by simp) (by simp) (by simp))
  have hconvert : (s.setClaim (s.computedClaim view)).convert.ClaimBound :=
    computedClaim_bound (s := s) view (by simp [convert_spec]) (by simp) (ownLimit_congr (by simp) (by simp))
      (claimBarred_congr (by simp) (by simp) (by simp) (by simp) (by simp))
  rw [chargeSafe_iff]
  unfold State.periodClaim
  split
  · next heq =>
    obtain ⟨-, -, hout, hen, href⟩ := h
    exact ⟨⟨by simp, by simp, fun h0 => by simpa using hout (heq ▸ h0), by simpa using hen, by simpa using href⟩,
        hbound⟩
  · exact ⟨convert_formed (by simp) (by simp), hconvert⟩

theorem beaconSent_chargeSafe {s : State} (h : s.ChargeSafe) (claim : Nat) : (s.beaconSent claim).ChargeSafe := by
  obtain ⟨hd, hw, hb, hc, hp, ho, he, hi⟩ := h
  unfold State.beaconSent
  split
  · next heq => exact ⟨rfl, hw, hb, hc, hp, fun h0 => ho (heq ▸ h0), he, hi⟩
  · rw [chargeSafe_iff]
    refine ⟨convert_formed rfl hw, claimBound_congr (s := s) (by simp) (ownLimit_congr (by simp) (by simp)) ?_
      (by simp [convert_spec]) ⟨hb, hc, hp⟩⟩
    rw [claimBarred_congr (s := s) (by simp) (by simp) (by simp) (by simp) (by simp)]
    exact id

/-! ## The session, the line and the view -/

theorem raiseFlag_chargeSafe {s : State} (h : s.she.Formed) (f : Flag) : (s.raiseFlag f).ChargeSafe :=
  recompute_chargeSafe (by simpa using h)

/-- A departure recomputes the claim, which is 0 when no session was OPEN (R81). -/
theorem sessionDeparts_chargeSafe {s : State} (h : s.she.Formed)
    (hc : s.slu.session.isOpen = false → s.she.claim = 0) (reason : EndReason) :
    (s.sessionDeparts reason).ChargeSafe := by
  unfold State.sessionDeparts
  split
  · exact recompute_chargeSafe ⟨h.1, rfl, h.2.2⟩
  · next hne =>
    refine chargeSafe_of_unclaimed h (hc ?_)
    cases hs : s.slu.session with
    | opened r left => exact absurd hs (hne r left)
    | _ => rfl

theorem openSession_chargeSafe {s : State} (h : s.she.Formed) (id : Nat) : (s.openSession id).ChargeSafe :=
  chargeSafe_congr (by simp [State.openSession]) (by simp) (by simp) (by simp [State.openSession]) (by simp) (by simp)
    (by simp)
    (recompute_chargeSafe (s := { s with slu.session := .opened (s.newRecord id) none }.meterOpens) (by simpa using h))

theorem openingTest_chargeSafe {s : State} (h : s.ChargeSafe) : s.openingTest.ChargeSafe := by
  obtain ⟨id, left, -, -, e⟩ | e := openingTest_cases s <;> rw [e]
  · exact openSession_chargeSafe (formed_of_chargeSafe h) id
  · exact h

theorem overdrawAbsent_formed {s : State} (h : s.she.Formed) : s.overdrawAbsent.she.Formed := by
  unfold State.overdrawAbsent
  split <;> exact h

/-- A line that leaves GOOD recomputes the claim; on any other line nothing is claimed (R79, R81). -/
theorem shareLine_chargeSafe {s : State} {before : LineState} (h : s.she.Formed)
    (hc : before ≠ .good → s.she.claim = 0) : (s.shareLine before).ChargeSafe := by
  have habsent := overdrawAbsent_formed h
  unfold State.shareLine
  split
  · exact recompute_chargeSafe (setDemand_formed habsent 0)
  · next hne =>
    refine chargeSafe_of_unclaimed habsent ?_
    rw [← hc hne]
    unfold State.overdrawAbsent
    split <;> rfl

/-- The entry into FAULT withdraws the clearance before the session departs (R115). -/
theorem isoFaultDeparts_chargeSafe {s : State} (h : s.ChargeSafe) : s.isoFaultDeparts.ChargeSafe := by
  have hf := formed_of_chargeSafe h
  have hclosed : s.slu.session.isOpen = false → s.she.claim = 0 := fun hc =>
    unclaimed_of_chargeSafe h (claimBarred_of_closed hc)
  have hdeparts : ∀ u : State, u.ChargeSafe →
      (State.sessionDeparts .isoFault { u with imon.clearance := false }).ChargeSafe := fun u hu =>
    sessionDeparts_chargeSafe (s := { u with imon.clearance := false }) (formed_of_chargeSafe hu)
      (fun hclosed => unclaimed_of_chargeSafe hu (claimBarred_of_closed hclosed)) _
  have hraise : (s.faultEntered.raiseFlag .isoFault).ChargeSafe :=
    raiseFlag_chargeSafe (s := s.faultEntered) hf _
  obtain ⟨u, e, rfl | rfl | rfl⟩ := isoFaultDeparts_cases s <;> rw [e]
  · exact sessionDeparts_chargeSafe (s := { s.faultEntered with imon.clearance := false }) hf hclosed _
  · exact hdeparts _ hraise
  · exact hdeparts _ (openingTest_chargeSafe hraise)

theorem line_chargeSafe {s : State} (h : s.ChargeSafe) (m : FrontEnd) :
    ({ s with mfe := m }.lineReport s.mfe.line).ChargeSafe := by
  unfold State.lineReport
  split
  · next heq => exact chargeSafe_congr (s := s) rfl rfl rfl rfl heq rfl rfl h
  · refine openingTest_chargeSafe ?_
    refine chargeSafe_congr (s := State.shareLine s.mfe.line { s with mfe := m }) rfl rfl rfl
      (by simp [Session.lineChanged_isOpen]) rfl rfl rfl ?_
    refine shareLine_chargeSafe (s := { s with mfe := m }) ?_ fun hne => ?_
    · exact formed_of_chargeSafe (s := s) h
    · exact unclaimed_of_chargeSafe (s := s) h (claimBarred_of_line hne)

/-- A change of the view leaves the limit: what it resolves was no HELD record (R44, R48). -/
theorem setView_ownLimit (s : State) (view : List Entry) : (s.setView view).ownLimit = s.ownLimit := by
  simp only [State.ownLimit, State.setView_fields, State.setView_rest]
  cases s.pvt.record with
  | none => rfl
  | some r =>
    have hresolve : r.resolve s.pvt.view view = r ∨
        (∃ x, r.status = .conflicted x) ∧ (r.resolve s.pvt.view view).status = .resolving := by
      unfold Contract.resolve
      split
      · next x hx =>
        split
        · exact .inr ⟨⟨x, hx⟩, rfl⟩
        · exact .inl rfl
      · exact .inl rfl
    obtain e | ⟨⟨x, hx⟩, hr⟩ := hresolve
    · simp [e]
    · simp [hx, hr]

theorem setView_chargeSafe {s : State} (h : s.ChargeSafe) (view : List Entry) : (s.setView view).ChargeSafe := by
  rw [chargeSafe_iff]
  refine ⟨by simpa using formed_of_chargeSafe h, claimBound_congr (by simp) (setView_ownLimit s view) ?_ (by simp)
      (claimBound_of_chargeSafe h)⟩
  rw [claimBarred_congr (s := s) (by simp) (by simp) (by simp) (by simp) (by simp)]
  exact id

/-! ## Every change -/

theorem Move.chargeSafe {s t : State} (h : Move s t) (hs : s.ChargeSafe) : t.ChargeSafe := by
  have hf := formed_of_chargeSafe hs
  have hb := claimBound_of_chargeSafe hs
  have hclosed : s.slu.session.isOpen = false → s.she.claim = 0 := fun h => hb.1 (claimBarred_of_closed h)
  cases h with
  | quiet h => exact h.chargeSafe hs
  | recompute h => exact recompute_chargeSafe (h.formed hf)
  | raise h => exact raiseFlag_chargeSafe (h.formed hf) _
  | convert => exact convert_chargeSafe hs
  | setDemand => exact (chargeSafe_iff _).2 ⟨setDemand_formed hf _, hb⟩
  | periodClaim => exact periodClaim_chargeSafe hf _
  | beaconSent => exact beaconSent_chargeSafe hs _
  | thermalHold =>
    refine convert_chargeSafe ?_
    exact (chargeSafe_iff _).2 ⟨setDemand_formed (s := s.thermalHold) hf _, hb⟩
  | line => exact line_chargeSafe hs _
  | openSession => exact openSession_chargeSafe hf _
  | departs => exact sessionDeparts_chargeSafe hf hclosed _
  | idle h => exact chargeSafe_congr (s := s) rfl rfl rfl h.symm rfl rfl rfl hs
  | goPending h id =>
    have hr : (State.recompute { s with slu.session := .pending id pendingTime }).ChargeSafe :=
      recompute_chargeSafe hf
    exact chargeSafe_congr (by simp [State.goPending]) (by simp) (by simp) (by simp)
      (by simp) (by simp) (by simp) hr
  | clearanceOn => exact openingTest_chargeSafe hs
  | insulation _ h =>
    refine (chargeSafe_iff _).2 ⟨hf, claimBound_congr (s := s) rfl rfl ?_ rfl hb⟩
    simp only [State.claimBarred, State.latched]
    simp [h]
    tauto
  | isoFault => exact isoFaultDeparts_chargeSafe hs
  | settle | age => exact setView_chargeSafe hs _
  | _ => exact chargeSafe_congr (by simp) (by simp) (by simp) (by simp) (by simp) (by simp) (by simp) hs

/-- The report of a change of mode recomputes the claim (R81). -/
theorem modeReport_chargeSafe {s : State} (h : s.she.Formed) : s.modeReport.ChargeSafe := by
  have hshare : s.shareMode.ChargeSafe := by
    unfold State.shareMode
    split
    · exact recompute_chargeSafe h
    · exact recompute_chargeSafe (setDemand_formed h 0)
  refine openingTest_chargeSafe ?_
  exact chargeSafe_congr (by simp) (by simp) (by simp) (by simp) (by simp) (by simp) (by simp) hshare

theorem shareShutdown_formed (s : State) : s.shareShutdown.she.Formed := by
  simp [Share.Formed]

theorem Change.chargeSafe {s t : State} (h : Change s t) (hs : s.ChargeSafe) : t.ChargeSafe := by
  have hf := formed_of_chargeSafe hs
  have hb := claimBound_of_chargeSafe hs
  cases h with
  | move h => exact h.chargeSafe hs
  | clear l =>
    refine openingTest_chargeSafe ((chargeSafe_iff _).2 ⟨by simpa using hf, ?_⟩)
    refine claimBound_congr (by simp) (ownLimit_congr (by simp) (by simp)) (fun hbar => ?_) (by simp) hb
    simp only [State.claimBarred, dropFlags_latched, State.dropFlags_rest, Bool.or_eq_true, Bool.and_eq_true] at hbar ⊢
    tauto
  | dupId =>
    exact chargeSafe_congr (by simp) (by simp) (by simp) (by simp) (by simp) (by simp) (by simp)
      (raiseFlag_chargeSafe hf .dupId)
  | @injector u h =>
    have hu : u.ChargeSafe := h.chargeSafe hs
    have hlatch : (u.latch .injector).ChargeSafe := by
      obtain e | e | e := latch_cases (f := .injector) (.inr (.inl rfl)) (by decide) u <;> rw [e]
      · exact hu
      · exact raiseFlag_chargeSafe (formed_of_chargeSafe hu) _
      · exact openingTest_chargeSafe (raiseFlag_chargeSafe (formed_of_chargeSafe hu) _)
    exact chargeSafe_congr (by simp [State.injectorFails]) (by simp [State.injectorFails])
      (by simp [State.injectorFails]) (by simp [State.injectorFails]) (by simp [State.injectorFails])
      (by simp [State.injectorFails]) (by simp [State.injectorFails]) hlatch
  | @measured _ u _ _ _ h hm =>
    have hu := hm.keeps Move.chargeSafe (h.chargeSafe hs)
    exact (quiet_enterWaiting u).chargeSafe hu
  | configure h | failImage h | scanSlot h =>
    have hc : s.she.claim = 0 := hb.1 (claimBarred_of_mode (by simp [h]))
    exact chargeSafe_of_unclaimed hf hc
  | listening | configHold => exact modeReport_chargeSafe (by simpa using hf)
  | run => exact modeReport_chargeSafe hf
  | powerFail =>
    refine sessionDeparts_chargeSafe ?_ (fun _ => by simp) _
    simpa using shareShutdown_formed s
  | dormant => exact chargeSafe_of_unclaimed (by simp [State.enterDormant, Share.start, Share.Formed]) rfl

/-- Settles O57: a reset claims nothing, and every change that may bar the claim recomputes it. -/
theorem chargeKept : Obligations.ChargeKept := by
  intro s t hs h
  obtain ⟨u, -, station, phase, clock, rfl⟩ | hr := step_cases h
  · exact chargeSafe_of_unclaimed
      (by simp [State.restarted, State.powerOn, State.atStart, Share.start, Share.Formed]) rfl
  · exact hr.keeps Change.chargeSafe hs

end Sys2Proof.Machine
end

section
/-! PROOF. Sessions (O58): a session opens through the opening test alone, which asks for RUN and the clearance, and the
clearance is withdrawn with the entry into FAULT. -/

namespace Sys2Proof.Machine

/-! ## OPEN in RUN, without FAULT, metered (R115, R120, R138) -/

/-- What stands while the insulation state passes into FAULT: OPEN in RUN alone, and metered. -/
def State.OpenMetered (s : State) : Prop :=
  (s.slu.session.isOpen = true → s.mdu.mode = .run) ∧ s.emt.active = s.slu.session.isOpen

theorem openMetered_congr {s t : State} (hmode : t.mdu.mode = s.mdu.mode)
    (hopen : t.slu.session.isOpen = s.slu.session.isOpen) (hact : t.emt.active = s.emt.active) (h : s.OpenMetered) :
    t.OpenMetered := by
  unfold State.OpenMetered at *
  rwa [hmode, hopen, hact]

theorem sessionSafe_iff (s : State) :
    s.SessionSafe ↔
      s.OpenMetered ∧ (s.imon.insulation = .fault → s.slu.session.isOpen = false ∧ s.imon.clearance = false) := by
  unfold State.SessionSafe State.OpenMetered
  tauto

theorem sessionSafe_congr {s t : State} (hmode : t.mdu.mode = s.mdu.mode)
    (hins : t.imon.insulation = .fault → s.imon.insulation = .fault)
    (hclear : t.imon.clearance = true → s.imon.clearance = true)
    (hopen : t.slu.session.isOpen = s.slu.session.isOpen) (hact : t.emt.active = s.emt.active) (h : s.SessionSafe) :
    t.SessionSafe := by
  obtain ⟨hrun, hfault, hactive⟩ := h
  refine ⟨by rw [hopen, hmode]; exact hrun, fun hf => ?_, by rw [hact, hopen, hactive]⟩
  obtain ⟨ho, hc⟩ := hfault (hins hf)
  exact ⟨by rw [hopen, ho], Bool.eq_false_iff.2 fun ht => by simp [hclear ht] at hc⟩

/-- A session that is not OPEN, without a meter, is safe in every mode while the clearance follows the insulation
state. -/
theorem sessionSafe_of_closed {s : State} (hopen : s.slu.session.isOpen = false) (hact : s.emt.active = false)
    (hclear : s.imon.insulation = .fault → s.imon.clearance = false) : s.SessionSafe :=
  ⟨by simp [hopen], fun hf => ⟨hopen, hclear hf⟩, by rw [hact, hopen]⟩

@[simp] theorem openSession_active (s : State) (id : Nat) : (s.openSession id).emt.active = true := by
  simp [State.openSession, State.meterOpens]

theorem openSession_openMetered {s : State} (hm : s.mayOpen = true) (id : Nat) : (s.openSession id).OpenMetered := by
  obtain ⟨hrun, -⟩ := (mayOpen_iff s).1 hm
  exact ⟨fun _ => by simp [hrun], by simp [Session.isOpen]⟩

theorem openingTest_openMetered {s : State} (h : s.OpenMetered) : s.openingTest.OpenMetered := by
  obtain ⟨id, left, -, hm, e⟩ | e := openingTest_cases s <;> rw [e]
  · exact openSession_openMetered hm id
  · exact h

/-- The opening test opens in RUN and with the clearance alone, which FAULT does not leave (R116, R138). -/
theorem openSession_sessionSafe {s : State} (h : s.SessionSafe) (hm : s.mayOpen = true) (id : Nat) :
    (s.openSession id).SessionSafe := by
  obtain ⟨-, -, hclear, -⟩ := (mayOpen_iff s).1 hm
  refine (sessionSafe_iff _).2 ⟨openSession_openMetered hm id, fun hf => ?_⟩
  have hc := (h.2.1 (by simpa using hf)).2
  simp [hclear] at hc

theorem openingTest_sessionSafe {s : State} (h : s.SessionSafe) : s.openingTest.SessionSafe := by
  obtain ⟨id, left, -, hm, e⟩ | e := openingTest_cases s <;> rw [e]
  · exact openSession_sessionSafe h hm id
  · exact h

/-- After a departure no session is OPEN and the meter is not active (R129). -/
theorem sessionDeparts_active {s : State} (h : s.emt.active = s.slu.session.isOpen) (reason : EndReason) :
    (s.sessionDeparts reason).emt.active = false := by
  unfold State.sessionDeparts
  split
  · simp [State.meterDeparts, Meter.departed]
  · next hne =>
    rw [h]
    cases hs : s.slu.session with
    | opened r left => exact absurd hs (hne r left)
    | _ => rfl

theorem sessionDeparts_sessionSafe {s : State} (h : s.emt.active = s.slu.session.isOpen)
    (hclear : s.imon.insulation = .fault → s.imon.clearance = false) (reason : EndReason) :
    (s.sessionDeparts reason).SessionSafe :=
  sessionSafe_of_closed (by simp) (sessionDeparts_active h reason) (by simpa using hclear)

/-- The entry into FAULT withdraws the clearance and leaves no session OPEN (R115). -/
theorem isoFaultDeparts_sessionSafe {s : State} (h : s.OpenMetered) : s.isoFaultDeparts.SessionSafe := by
  have hf : s.faultEntered.OpenMetered := h
  have hraise : (s.faultEntered.raiseFlag .isoFault).OpenMetered :=
    openMetered_congr (by simp) (by simp) (by simp) h
  obtain ⟨u, e, hu⟩ := isoFaultDeparts_cases s
  have hum : u.OpenMetered := by
    obtain rfl | rfl | rfl := hu
    · exact hf
    · exact hraise
    · exact openingTest_openMetered hraise
  rw [e]
  exact sessionDeparts_sessionSafe (s := { u with imon.clearance := false }) hum.2 (fun _ => rfl) _

theorem line_sessionSafe {s : State} (h : s.SessionSafe) (m : FrontEnd) :
    ({ s with mfe := m }.lineReport s.mfe.line).SessionSafe := by
  unfold State.lineReport
  split
  · exact h
  · refine openingTest_sessionSafe ?_
    exact sessionSafe_congr (by simp) (by simp) (by simp) (by simp [Session.lineChanged_isOpen]) (by simp) h

theorem Aside.sessionSafe {s t : State} (h : Aside s t) (hs : s.SessionSafe) : t.SessionSafe :=
  sessionSafe_congr h.mode (by rw [h.insulation]; exact id) (by rw [h.clearance]; exact id) h.isOpen h.active hs

theorem Move.sessionSafe {s t : State} (h : Move s t) (hs : s.SessionSafe) : t.SessionSafe := by
  obtain ⟨hrun, hfault, hactive⟩ := id hs
  cases h with
  | quiet h => exact h.sessionSafe hs
  | recompute h => exact sessionSafe_congr (by simp) (by simp) (by simp) (by simp) (by simp) (h.sessionSafe hs)
  | raise h => exact sessionSafe_congr (by simp) (by simp) (by simp) (by simp) (by simp) (h.sessionSafe hs)
  | line => exact line_sessionSafe hs _
  | openSession hm => exact openSession_sessionSafe hs hm _
  | departs => exact sessionDeparts_sessionSafe hactive (fun hf => (hfault hf).2) _
  | idle h => exact sessionSafe_congr (s := s) rfl id id h.symm rfl hs
  | meterIdles h => exact sessionSafe_of_closed h rfl fun hf => (hfault hf).2
  | goPending h =>
    exact sessionSafe_congr (by simp) (by simp) (by simp) (by rw [h]; simp [Session.isOpen]) (by simp) hs
  | clearanceOff => exact sessionSafe_congr (s := s) rfl id nofun rfl rfl hs
  | clearanceOn h =>
    refine openingTest_sessionSafe ?_
    exact ⟨hrun, fun hf => absurd hf h, hactive⟩
  | insulation _ h => exact ⟨hrun, fun hf => absurd hf h, hactive⟩
  | isoFault => exact isoFaultDeparts_sessionSafe ((sessionSafe_iff s).1 hs).1
  | _ => exact sessionSafe_congr (by simp) (by simp) (by simp) (by simp) (by simp) hs

/-- A change of mode leaves sessions safe that are safe in the new mode. -/
theorem modeReport_sessionSafe {s : State} (h : s.SessionSafe) : s.modeReport.SessionSafe := by
  refine openingTest_sessionSafe ?_
  exact sessionSafe_congr (by simp) (by simp) (by simp) (by simp) (by simp) h

theorem Change.sessionSafe {s t : State} (h : Change s t) (hs : s.SessionSafe) : t.SessionSafe := by
  obtain ⟨hrun, hfault, hactive⟩ := id hs
  have hclosed : s.mdu.mode ≠ .run → s.slu.session.isOpen = false := fun h => Bool.eq_false_iff.2 fun ho => h (hrun ho)
  have hmode : ∀ {u : State}, s.mdu.mode ≠ .run → u.imon = s.imon → u.slu = s.slu → u.emt = s.emt →
      u.modeReport.SessionSafe := fun hm himon hslu hemt =>
    modeReport_sessionSafe (sessionSafe_of_closed (by rw [hslu, hclosed hm]) (by rw [hemt, hactive, hclosed hm])
      (by rw [himon]; exact fun hf => (hfault hf).2))
  cases h with
  | move h => exact h.sessionSafe hs
  | clear l =>
    refine openingTest_sessionSafe ?_
    exact sessionSafe_congr (by simp) (by simp) (by simp) (by simp) (by simp) hs
  | dupId => exact sessionSafe_congr (by simp) (by simp) (by simp) (by simp) (by simp) hs
  | @injector u h =>
    have hu : u.SessionSafe := h.sessionSafe hs
    have hraise : (u.raiseFlag .injector).SessionSafe :=
      sessionSafe_congr (by simp) (by simp) (by simp) (by simp) (by simp) hu
    have hlatch : (u.latch .injector).SessionSafe := by
      obtain e | e | e := latch_cases (f := .injector) (.inr (.inl rfl)) (by decide) u <;> rw [e]
      · exact hu
      · exact hraise
      · exact openingTest_sessionSafe hraise
    exact sessionSafe_congr (by simp [State.injectorFails]) (by simp [State.injectorFails])
      (by simp [State.injectorFails]) (by simp [State.injectorFails]) (by simp [State.injectorFails]) hlatch
  | measured _ h hm => exact (quiet_enterWaiting _).sessionSafe (hm.keeps Move.sessionSafe (h.sessionSafe hs))
  | configure | failImage | scanSlot => exact sessionSafe_congr (s := s) rfl id id rfl rfl hs
  | listening h =>
    refine hmode (fun hm => by simp [hm, Mode.runs] at h) ?_ ?_ ?_ <;> simp
  | configHold h => refine hmode (by simp [h]) ?_ ?_ ?_ <;> simp
  | run h => exact hmode (by simp [h]) rfl rfl rfl
  | powerFail =>
    refine sessionDeparts_sessionSafe (by simpa using hactive) ?_ _
    simpa [State.powerHolds] using fun hf => (hfault hf).2
  | dormant h =>
    have hidle : s.slu.session.isIdle = true := by simp_all [State.dormantReady]
    exact sessionSafe_of_closed (isOpen_of_isIdle hidle) (hactive.trans (isOpen_of_isIdle hidle)) fun _ => rfl

/-! ## No session PENDING that may open (R138) -/

theorem openingSafe_congr {s t : State} (hpend : t.slu.session.isPending = s.slu.session.isPending)
    (hm : t.mayOpen = true → s.mayOpen = true) (h : s.OpeningSafe) : t.OpeningSafe := fun hp =>
  Bool.eq_false_iff.2 fun ht => by simpa [h (hpend ▸ hp)] using hm ht

/-- After the opening test no session stays PENDING that may open. -/
theorem openingTest_openingSafe (s : State) : s.openingTest.OpeningSafe := by
  obtain ⟨id, left, -, -, e⟩ | e := openingTest_cases s
  · intro hp
    simp [e, Session.isPending] at hp
  · intro hp
    rw [e] at hp ⊢
    rw [← Bool.not_eq_true]
    intro hm
    cases hs : s.slu.session with
    | pending id left =>
      have := (openingTest_opens hs hm).1
      simp [e, hs] at this
    | _ => simp [hs, Session.isPending] at hp

theorem openingSafe_of_unclear {s : State} (h : s.imon.clearance = false) : s.OpeningSafe := fun _ => by
  simp [State.mayOpen, h]

theorem openingSafe_of_mode {s : State} (h : s.mdu.mode ≠ .run) : s.OpeningSafe := fun _ => by
  simp [State.mayOpen, h]

/-- A flag more lets no session open that could not. -/
theorem mayOpen_of_raiseFlag {s : State} {f : Flag} (h : (s.raiseFlag f).mayOpen = true) : s.mayOpen = true := by
  simp only [mayOpen_iff, State.raiseFlag_rest, raiseFlag_latched, Bool.or_eq_false_iff] at h ⊢
  tauto

theorem raiseFlag_openingSafe {s : State} (h : s.OpeningSafe) (f : Flag) : (s.raiseFlag f).OpeningSafe :=
  openingSafe_congr (by simp) mayOpen_of_raiseFlag h

theorem Aside.openingSafe {s t : State} (h : Aside s t) (hs : s.OpeningSafe) : t.OpeningSafe := by
  refine openingSafe_congr h.isPending (fun hm => ?_) hs
  simpa [State.mayOpen, State.latched, h.mode, h.line, h.clearance, h.flu] using hm

/-- What leaves the four values that the opening test reads leaves the test (R138). -/
theorem openingSafe_of_reads {s t : State} (hpend : t.slu.session.isPending = s.slu.session.isPending)
    (hmdu : t.mdu = s.mdu) (hline : t.mfe.line = s.mfe.line) (hclear : t.imon.clearance = s.imon.clearance)
    (hflu : t.flu = s.flu) (h : s.OpeningSafe) : t.OpeningSafe :=
  openingSafe_congr hpend (by rw [mayOpen_congr hmdu hline hclear hflu]; exact id) h

theorem Move.openingSafe {s t : State} (h : Move s t) (hs : s.OpeningSafe) : t.OpeningSafe := by
  cases h with
  | quiet h => exact h.openingSafe hs
  | recompute h =>
    exact openingSafe_of_reads (by simp) (by simp) (by simp) (by simp) (by simp) (h.openingSafe hs)
  | raise h => exact raiseFlag_openingSafe (h.openingSafe hs) _
  | line =>
    unfold State.lineReport
    split
    · next heq => exact openingSafe_of_reads (s := s) rfl rfl heq rfl rfl hs
    · exact openingTest_openingSafe _
  | openSession => intro hp; simp [Session.isPending] at hp
  | idle => intro hp; simp [Session.isPending] at hp
  | goPending => exact openingSafe_of_unclear (by simp)
  | clearanceOff => exact openingSafe_of_unclear rfl
  | clearanceOn => exact openingTest_openingSafe _
  | isoFault => exact openingSafe_of_unclear (by simp)
  | _ => exact openingSafe_of_reads (by simp) (by simp) (by simp) (by simp) (by simp) hs

theorem Change.openingSafe {s t : State} (h : Change s t) (hs : s.OpeningSafe) : t.OpeningSafe := by
  cases h with
  | move h => exact h.openingSafe hs
  | clear => exact openingTest_openingSafe _
  | dupId =>
    exact openingSafe_of_reads (by simp) (by simp) (by simp) (by simp) (by simp) (raiseFlag_openingSafe hs .dupId)
  | @injector u h =>
    have hu : u.OpeningSafe := h.openingSafe hs
    have hlatch : (u.latch .injector).OpeningSafe := by
      obtain e | e | e := latch_cases (f := .injector) (.inr (.inl rfl)) (by decide) u <;> rw [e]
      · exact hu
      · exact raiseFlag_openingSafe hu _
      · exact openingTest_openingSafe _
    exact openingSafe_of_reads (by simp [State.injectorFails]) (by simp [State.injectorFails])
      (by simp [State.injectorFails]) (by simp [State.injectorFails]) (by simp [State.injectorFails]) hlatch
  | measured _ h hm => exact (quiet_enterWaiting _).openingSafe (hm.keeps Move.openingSafe (h.openingSafe hs))
  | configure h | failImage h => exact openingSafe_of_mode (by simp [h])
  | scanSlot h => exact openingSafe_of_mode (by simp [State.scanSlot, h])
  | listening | configHold | run => exact openingTest_openingSafe _
  | powerFail => exact openingSafe_of_mode (by simp [State.powerDeparts])
  | dormant => exact openingSafe_of_mode (by simp [State.enterDormant])

/-- Settles O58: a reset leaves no session, and every change keeps both invariants. -/
theorem sessionKept : Obligations.SessionKept := by
  refine ⟨fun s t hs h => ?_, fun s t hs h => ?_⟩
  · obtain ⟨u, -, station, phase, clock, rfl⟩ | hr := step_cases h
    · exact sessionSafe_of_closed rfl rfl fun _ => rfl
    · exact hr.keeps Change.sessionSafe hs
  · obtain ⟨u, -, station, phase, clock, rfl⟩ | hr := step_cases h
    · exact openingSafe_of_unclear rfl
    · exact hr.keeps Change.openingSafe hs

end Sys2Proof.Machine
end

section
/-! PROOF. The retained store, the slot table and the peer view (O46, O60): a committed record is found as written and
no other slot moves; the table holds no sequence twice; the view stays in the order of its ids. -/

namespace Sys2Proof.Machine

/-! ## Fields as written and read back -/

theorem lowByte_toNat (n : Nat) : (lowByte n).toNat = n % 256 := by simp [lowByte]

/-- A field of two bytes is read back as written. -/
theorem rd16_be16 {n : Nat} (h : n ≤ 65535) (l : List Byte) : rd16 (be16 n ++ l) 0 = n := by
  simp [rd16, rd8, be16, lowByte_toNat]
  omega

/-- A field of four bytes is read back as written. -/
theorem rd32_be32 {n : Nat} (h : n ≤ 4294967295) (l : List Byte) : rd32 (be32 n ++ l) 0 = n := by
  simp [rd32, rd16, rd8, be32, lowByte_toNat]
  omega

theorem rd32_take (l : List Byte) : rd32 (l.take 4) 0 = rd32 l 0 := by
  simp [rd32, rd16, rd8, List.getD_eq_getElem?_getD]

/-! ## A slot's bytes (R178) -/

theorem record_bytes_length (r : SessionRecord) : r.bytes.length = 47 := by
  cases hm : r.minIns <;> cases hp : r.peak <;>
    simp [SessionRecord.bytes, energyField, peakField, be32, be24, be16, hm, hp]

theorem readBytes_congr {m m' : Memory} {a n : Nat} (h : ∀ x, a ≤ x → x < a + n → readByte m' x = readByte m x) :
    readBytes m' a n = readBytes m a n := by
  induction n generalizing a with
  | zero => rfl
  | succ n ih =>
    rw [readBytes, readBytes, h a (le_refl a) (by omega), ih fun x h1 h2 => h x (by omega) (by omega)]

/-- What a slot commits is read of its own 48 bytes alone. -/
theorem committedSeq_congr {m m' : Memory} {slot : Fin 16}
    (h : ∀ x, 48 * slot.val ≤ x → x < 48 * slot.val + 48 → readByte m' x = readByte m x) :
    committedSeq m' slot = committedSeq m slot := by
  have hbytes : readBytes m' (slotAddr slot 0) 4 = readBytes m (slotAddr slot 0) 4 :=
    readBytes_congr fun x h1 h2 => h x (by simp [slotAddr, slotSize] at h1; omega)
      (by simp [slotAddr, slotSize] at h2; omega)
  have hmark : readByte m' (slotAddr slot markerOffset) = readByte m (slotAddr slot markerOffset) :=
    h _ (by simp [slotAddr, slotSize, markerOffset]; omega) (by simp [slotAddr, slotSize, markerOffset]; omega)
  rw [committedSeq, committedSeq, hbytes, hmark]

/-- The byte at an address after a record of 47 bytes has been committed to a slot. -/
theorem readByte_commitRecord {m : Memory} (hm : Memory.wf m = true) (slot : Fin 16) {record : List Byte}
    (hlen : record.length = 47) (x : Nat) :
    readByte (commitRecord m slot record) x =
      if x = 48 * slot.val + 47 then markerValue
      else if 48 * slot.val ≤ x ∧ x < 48 * slot.val + 47 then record.getD (x - 48 * slot.val) 0 else readByte m x := by
  have haddr : slotAddr slot markerOffset = 48 * slot.val + 47 := by simp [slotAddr, slotSize, markerOffset]; omega
  have hbase : slotAddr slot 0 = 48 * slot.val := by simp [slotAddr, slotSize]; omega
  rw [commitRecord, readByte_writeByte (writeBytes_wf _ _ hm), haddr, hbase, readByte_writeBytes hm, hlen]

/-- A committed record is read back as written. -/
theorem readBytes_commitRecord {m : Memory} (hm : Memory.wf m = true) (slot : Fin 16) {record : List Byte}
    (hlen : record.length = 47) : readBytes (commitRecord m slot record) (48 * slot.val) 47 = record := by
  apply List.ext_getElem?
  intro j
  by_cases hj : j < 47
  · rw [readBytes_getElem? _ _ _ _ hj, readByte_commitRecord hm slot hlen, if_neg (by omega), if_pos (by omega),
      Nat.add_sub_cancel_left, List.getD_eq_getElem?_getD, List.getElem?_eq_getElem (by omega)]
    rfl
  · rw [List.getElem?_eq_none (by simp; omega), List.getElem?_eq_none (by omega)]

/-- A committed record is found by its marker with its sequence. -/
theorem committedSeq_commitRecord {m : Memory} (hm : Memory.wf m = true) (slot : Fin 16) {r : SessionRecord}
    (hseq : r.seq ≤ 4294967295) : committedSeq (commitRecord m slot r.bytes) slot = some r.seq := by
  have hlen := record_bytes_length r
  have hmark : readByte (commitRecord m slot r.bytes) (slotAddr slot markerOffset) = markerValue := by
    rw [readByte_commitRecord hm slot hlen, if_pos (by simp [slotAddr, slotSize, markerOffset]; omega)]
  have hbytes : readBytes (commitRecord m slot r.bytes) (slotAddr slot 0) 4 = r.bytes.take 4 := by
    rw [← readBytes_commitRecord hm slot hlen, readBytes_commitRecord hm slot hlen]
    apply List.ext_getElem?
    intro j
    by_cases hj : j < 4
    · rw [readBytes_getElem? _ _ _ _ hj, List.getElem?_take_of_lt hj, ← readBytes_commitRecord hm slot hlen,
        readBytes_getElem? _ _ _ _ (by omega), readBytes_commitRecord hm slot hlen]
      simp [slotAddr, slotSize, Nat.mul_comm]
    · rw [List.getElem?_eq_none (by simp; omega), List.getElem?_eq_none (by simp; omega)]
  have hfield : rd32 r.bytes 0 = r.seq := by
    simp only [SessionRecord.bytes, List.append_assoc]
    exact rd32_be32 hseq _
  rw [committedSeq, if_pos hmark, hbytes, rd32_take, hfield]

/-- A commit leaves every other slot as it was. -/
theorem committedSeq_commitRecord_other {m : Memory} (hm : Memory.wf m = true) {slot other : Fin 16}
    (hne : other ≠ slot) {record : List Byte} (hlen : record.length = 47) :
    committedSeq (commitRecord m slot record) other = committedSeq m other := by
  have hval : other.val ≠ slot.val := fun h => hne (Fin.ext h)
  refine committedSeq_congr fun x h1 h2 => ?_
  rw [readByte_commitRecord hm slot hlen, if_neg (by omega), if_neg (by omega)]

/-- A cleared marker leaves every other slot as it was. -/
theorem committedSeq_clearMarker_other {m : Memory} (hm : Memory.wf m = true) {slot other : Fin 16}
    (hne : other ≠ slot) : committedSeq (clearMarker m slot) other = committedSeq m other := by
  have hval : other.val ≠ slot.val := fun h => hne (Fin.ext h)
  refine committedSeq_congr fun x h1 h2 => ?_
  rw [clearMarker, readByte_writeByte hm, if_neg (by simp [slotAddr, slotSize, markerOffset]; omega)]

/-- Settles O46, from the byte at every address after a commit. -/
theorem committedRecord : Obligations.CommittedRecord := by
  intro m slot r hm hseq
  have hlen := record_bytes_length r
  refine ⟨hlen, commitRecord_wf slot _ hm, committedSeq_commitRecord hm slot hseq, readBytes_commitRecord hm slot hlen,
    fun a ha => ?_⟩
  rw [readByte_commitRecord hm slot hlen, if_neg (by omega), if_neg (by omega)]

/-! ## The slot table -/

theorem slotEntry_set {table : List (Option Nat)} (hlen : table.length = 16) (slot other : Fin 16) (v : Option Nat) :
    slotEntry (table.set slot.val v) other = if other = slot then v else slotEntry table other := by
  have hiff : slot.val = other.val ↔ other = slot := by rw [Fin.ext_iff, eq_comm]
  simp only [slotEntry, List.getD_eq_getElem?_getD, List.getElem?_set, hiff]
  split <;> simp [hlen]

theorem slotEntry_empty (n : Nat) (slot : Fin 16) : slotEntry (List.replicate n none) slot = none := by
  simp only [slotEntry, List.getD_eq_getElem?_getD, List.getElem?_replicate]
  split <;> rfl

theorem le_foldl_max (l : List Nat) (a : Nat) : a ≤ l.foldl max a ∧ ∀ n ∈ l, n ≤ l.foldl max a := by
  induction l generalizing a with
  | nil => simp
  | cons x rest ih =>
    obtain ⟨h1, h2⟩ := ih (max a x)
    simp only [List.foldl_cons, List.mem_cons, forall_eq_or_imp]
    exact ⟨by omega, by omega, h2⟩

theorem foldl_max_mem (l : List Nat) (a : Nat) : l.foldl max a = a ∨ l.foldl max a ∈ l := by
  induction l generalizing a with
  | nil => simp
  | cons x rest ih =>
    simp only [List.foldl_cons, List.mem_cons]
    obtain h | h := ih (max a x)
    · omega
    · exact .inr (.inr h)

theorem le_newestSeq {table : List (Option Nat)} {n : Nat} (h : n ∈ heldSequences table) : n ≤ newestSeq table :=
  (le_foldl_max _ 0).2 n h

theorem newestSeq_mem (table : List (Option Nat)) : newestSeq table = 0 ∨ newestSeq table ∈ heldSequences table :=
  foldl_max_mem _ 0

theorem newestSeq_le {table table' : List (Option Nat)} (h : heldSequences table' ⊆ heldSequences table) :
    newestSeq table' ≤ newestSeq table := by
  obtain h0 | hm := newestSeq_mem table'
  · omega
  · exact le_newestSeq (h hm)

/-- An entry emptied leaves the others in their order. -/
theorem heldSequences_set_none (table : List (Option Nat)) (k : Nat) :
    (heldSequences (table.set k none)).Sublist (heldSequences table) := by
  induction table generalizing k with
  | nil => simp
  | cons x rest ih =>
    cases k with
    | zero => cases x <;> simp [heldSequences]
    | succ k => cases x <;> simpa [heldSequences] using ih k

/-- An entry made is held once above those that the others held. -/
theorem heldSequences_set_some {table : List (Option Nat)} {n : Nat} (hnodup : (heldSequences table).Nodup)
    (hnew : ∀ x ∈ heldSequences table, x < n) (k : Nat) : (heldSequences (table.set k (some n))).Nodup := by
  induction table generalizing k with
  | nil => simp [heldSequences]
  | cons x rest ih =>
    have hrest : (heldSequences rest).Nodup ∧ ∀ y ∈ heldSequences rest, y < n := by
      cases x <;> simp_all [heldSequences]
    cases k with
    | zero =>
      simp only [List.set_cons_zero, heldSequences, List.filterMap_cons, id_eq, List.nodup_cons]
      exact ⟨fun hm => absurd (hrest.2 n hm) (by omega), hrest.1⟩
    | succ k =>
      have hset := ih hrest.1 hrest.2 k
      cases x with
      | none => exact hset
      | some y =>
        have hmem : ∀ z ∈ heldSequences (rest.set k (some n)), z = n ∨ z ∈ heldSequences rest := by
          intro z hz
          simp only [heldSequences, List.mem_filterMap, id_eq, exists_eq_right] at hz ⊢
          simpa using (List.mem_or_eq_of_mem_set hz).symm
        have hy : y ∉ heldSequences rest := (List.nodup_cons.1 hnodup).1
        have hlt : y < n := hnew y (by simp [heldSequences])
        refine List.nodup_cons.2 ⟨fun hm => ?_, hset⟩
        obtain h | h := hmem y hm
        · omega
        · exact hy h

/-! ## The log on its store (R148, R149) -/

@[simp] theorem State.modeReport_log (s : State) :
    s.modeReport.slu.table = s.slu.table ∧ s.modeReport.slu.buffer = s.slu.buffer := by
  simp [State.modeReport]

@[simp] theorem State.beginListening_log (s : State) :
    s.beginListening.slu.table = s.slu.table ∧ s.beginListening.slu.buffer = s.slu.buffer := by
  simp [State.beginListening]

@[simp] theorem State.endStartFailed_log (s : State) :
    s.endStartFailed.slu.table = s.slu.table ∧ s.endStartFailed.slu.buffer = s.slu.buffer ∧
    s.endStartFailed.store = s.store := by
  simp [State.endStartFailed]

theorem logHeld_congr {s t : State} (hstore : t.store = s.store) (htable : t.slu.table = s.slu.table)
    (hbuffer : t.slu.buffer.map Buffer.record = s.slu.buffer.map Buffer.record) (h : s.LogHeld) : t.LogHeld := by
  obtain ⟨hwf, hlen, hheld, hbuf⟩ := h
  refine ⟨by rw [hstore, hwf], by rw [htable, hlen], by rw [htable, hstore]; exact hheld, ?_⟩
  cases hs : s.slu.buffer <;> cases ht : t.slu.buffer <;> simp_all

/-- A write's start clears the marker of the slot that leaves the table (R149). -/
theorem startWrite_logHeld {s : State} (h : s.LogHeld) {r : SessionRecord} (hseq : r.seq ≤ lastSequence)
    (failed : Option (Fin 16)) : (s.startWrite r failed).LogHeld := by
  obtain ⟨hwf, hlen, hheld, -⟩ := h
  refine ⟨clearMarker_wf _ hwf, by simp [State.startWrite, hlen], fun slot n hn => ?_, hseq⟩
  simp only [State.startWrite, slotEntry_set hlen] at hn ⊢
  split at hn
  · simp at hn
  · next hne => rw [committedSeq_clearMarker_other hwf hne, hheld slot n hn]

/-- A commit enters the record that the slot now holds (R149). -/
theorem commitBuffer_logHeld {s : State} (h : s.LogHeld) {b : Buffer} (hb : s.slu.buffer = some b) :
    (s.commitBuffer b).LogHeld := by
  obtain ⟨hwf, hlen, hheld, hbuf⟩ := h
  have hseq : b.record.seq ≤ 4294967295 := by simpa [hb, lastSequence] using hbuf
  have hstore : (s.commitBuffer b).store = commitRecord s.store b.target b.record.bytes := by
    simp [State.commitBuffer]
  refine ⟨by rw [hstore]; exact commitRecord_wf _ _ hwf, by simp [hlen], fun slot n hn => ?_, by simp⟩
  rw [hstore]
  simp only [State.commitBuffer_fields, slotEntry_set hlen] at hn
  split at hn
  · next heq => rw [heq, committedSeq_commitRecord hwf _ hseq, hn]
  · next hne => rw [committedSeq_commitRecord_other hwf hne (record_bytes_length _), hheld slot n hn]

theorem Aside.logHeld {s t : State} (h : Aside s t) (hs : s.LogHeld) : t.LogHeld :=
  logHeld_congr h.store h.table h.buffer hs

theorem Move.logHeld {s t : State} (h : Move s t) (hs : s.LogHeld) : t.LogHeld := by
  obtain ⟨hwf, hlen, hheld, hbuf⟩ := id hs
  cases h with
  | quiet h => exact h.logHeld hs
  | recompute h => exact logHeld_congr (by simp) (by simp) (by simp) (h.logHeld hs)
  | raise h => exact logHeld_congr (by simp) (by simp) (by simp) (h.logHeld hs)
  | newWrite r hb hn hr => exact startWrite_logHeld hs (by omega) _
  | rewrite hb =>
    rw [hb] at hbuf
    exact startWrite_logHeld hs hbuf _
  | commit hb => exact commitBuffer_logHeld hs hb
  | dropBuffer => exact ⟨hwf, hlen, hheld, trivial⟩
  | _ => exact logHeld_congr (by simp) (by simp) (by simp) hs

/-- An entry of the start scan is what the slot's marker commits (R148). -/
theorem scanSlot_logHeld {s : State} (h : s.LogHeld) (slot : Fin 16) {found : Option Nat}
    (hf : ∀ n, found = some n → committedSeq s.store slot = some n) : (s.scanSlot slot found).LogHeld := by
  obtain ⟨hwf, hlen, hheld, hbuf⟩ := h
  refine ⟨hwf, by simp [State.scanSlot, hlen], fun other n hn => ?_, hbuf⟩
  simp only [State.scanSlot, slotEntry_set hlen] at hn ⊢
  split at hn
  · next heq => rw [heq, hf n hn]
  · exact hheld other n hn

theorem Change.logHeld {s t : State} (h : Change s t) (hs : s.LogHeld) : t.LogHeld := by
  cases h with
  | move h => exact h.logHeld hs
  | @injector u h =>
    have hu := h.logHeld hs
    obtain e | e | e := latch_cases (f := .injector) (.inr (.inl rfl)) (by decide) u <;>
      exact logHeld_congr (by simp [State.injectorFails, e]) (by simp [State.injectorFails, e])
        (by simp [State.injectorFails, e]) hu
  | measured _ h hm => exact (quiet_enterWaiting _).logHeld (hm.keeps Move.logHeld (h.logHeld hs))
  | configure | failImage => exact hs
  | scanSlot _ slot hf => exact scanSlot_logHeld hs slot hf
  | listening | configHold => exact logHeld_congr (by simp) (by simp) (by simp) hs
  | run => exact logHeld_congr (by simp [State.enterRun]) (by simp [State.enterRun]) (by simp [State.enterRun]) hs
  | powerFail =>
    exact logHeld_congr (by simp [State.powerDeparts]) (by simp [State.powerDeparts]) (by simp [State.powerDeparts]) hs
  | dormant => exact hs
  | _ => exact logHeld_congr (by simp) (by simp) (by simp) hs

/-! ## No sequence twice (R146, R149) -/

theorem logDistinct_congr {s t : State} (htable : t.slu.table = s.slu.table)
    (hbuffer : t.slu.buffer.map Buffer.record = s.slu.buffer.map Buffer.record) (h : s.LogDistinct) :
    t.LogDistinct := by
  obtain ⟨hlen, hnodup, hbuf⟩ := h
  refine ⟨by rw [htable, hlen], by rw [htable]; exact hnodup, ?_⟩
  cases hs : s.slu.buffer <;> cases ht : t.slu.buffer <;> simp_all

/-- A write's start takes an entry out of the table; the record in the buffer stays above the others (R149). -/
theorem startWrite_logDistinct {s : State} (h : s.LogDistinct) {r : SessionRecord} (hr : newestSeq s.slu.table < r.seq)
    (failed : Option (Fin 16)) : (s.startWrite r failed).LogDistinct := by
  obtain ⟨hlen, hnodup, -⟩ := h
  have hsub := heldSequences_set_none s.slu.table (targetOf s.slu.table failed).val
  exact ⟨by simp [State.startWrite, hlen], hsub.nodup hnodup, (newestSeq_le hsub.subset).trans_lt hr⟩

theorem commitBuffer_logDistinct {s : State} (h : s.LogDistinct) {b : Buffer} (hb : s.slu.buffer = some b) :
    (s.commitBuffer b).LogDistinct := by
  obtain ⟨hlen, hnodup, hbuf⟩ := h
  have hnew : newestSeq s.slu.table < b.record.seq := by simpa [hb] using hbuf
  refine ⟨by simp [hlen], ?_, by simp⟩
  rw [(State.commitBuffer_fields s b).2.2]
  exact heldSequences_set_some hnodup (fun x hx => (le_newestSeq hx).trans_lt hnew) _

theorem Move.logDistinct {s t : State} (h : Move s t) (hs : s.LogDistinct) : t.LogDistinct := by
  obtain ⟨hlen, hnodup, hbuf⟩ := id hs
  cases h with
  | quiet h => exact logDistinct_congr h.table h.buffer hs
  | recompute h => exact logDistinct_congr (by simp [h.table]) (by simp [h.buffer]) hs
  | raise h => exact logDistinct_congr (by simp [h.table]) (by simp [h.buffer]) hs
  | newWrite r hb hn hr => exact startWrite_logDistinct hs (by omega) _
  | rewrite hb => exact startWrite_logDistinct hs (by simpa [hb] using hbuf) _
  | commit hb => exact commitBuffer_logDistinct hs hb
  | dropBuffer => exact ⟨hlen, hnodup, trivial⟩
  | _ => exact logDistinct_congr (by simp) (by simp) hs

theorem Move.mode {s t : State} (h : Move s t) : t.mdu.mode = s.mdu.mode := by
  cases h with
  | quiet h => exact h.mode
  | recompute h => simp [h.mode]
  | raise h => simp [h.mode]
  | _ => simp

/-- The log outside START, where the start scan alone writes the table (R148). -/
def State.LogRuns (s : State) : Prop := s.mdu.mode ≠ .start ∧ s.LogDistinct

theorem Move.logRuns {s t : State} (h : Move s t) (hs : s.LogRuns) : t.LogRuns :=
  ⟨by rw [h.mode]; exact hs.1, h.logDistinct hs.2⟩

theorem logRuns_congr {s t : State} (hmode : t.mdu.mode ≠ .start) (htable : t.slu.table = s.slu.table)
    (hbuffer : t.slu.buffer.map Buffer.record = s.slu.buffer.map Buffer.record) (h : s.LogRuns) : t.LogRuns :=
  ⟨hmode, logDistinct_congr htable hbuffer h.2⟩

theorem Change.logRuns {s t : State} (h : Change s t) (hs : s.LogRuns) : t.LogRuns := by
  have hmode := hs.1
  cases h with
  | move h => exact h.logRuns hs
  | @injector u h =>
    have hu : u.LogRuns := logRuns_congr (by rw [h.mode]; exact hmode) h.table h.buffer hs
    obtain e | e | e := latch_cases (f := .injector) (.inr (.inl rfl)) (by decide) u <;>
      exact logRuns_congr (by simpa [State.injectorFails, e] using hu.1) (by simp [State.injectorFails, e])
        (by simp [State.injectorFails, e]) hu
  | @measured u v _ _ _ h hm =>
    have hu : u.LogRuns := logRuns_congr (by rw [h.mode]; exact hmode) h.table h.buffer hs
    have hv := hm.keeps Move.logRuns hu
    exact logRuns_congr (by simpa using hv.1) (by simp) (by simp) hv
  | configure h | failImage h | scanSlot h | configHold h => exact absurd h hmode
  | listening => exact logRuns_congr (by simp) (by simp) (by simp) hs
  | run => exact logRuns_congr (by simp [State.enterRun]) (by simp [State.enterRun]) (by simp [State.enterRun]) hs
  | powerFail =>
    exact logRuns_congr (by simp [State.powerDeparts]) (by simp [State.powerDeparts]) (by simp [State.powerDeparts]) hs
  | dormant => exact logRuns_congr (s := s) (by simp [State.enterDormant]) rfl rfl hs
  | _ => exact logRuns_congr (by simpa using hmode) (by simp) (by simp) hs

/-! ## The peer view (R36, R37, R38) -/

theorem mem_putEntry {e f : Entry} {view : List Entry} (h : f ∈ putEntry e view) : f = e ∨ f ∈ view := by
  induction view with
  | nil => simpa [putEntry] using h
  | cons g rest ih =>
    unfold putEntry at h
    split at h
    · simpa using h
    · split at h <;> simp only [List.mem_cons] at h ⊢
      · tauto
      · obtain h | h := h
        · exact .inr (.inl h)
        · have := ih h
          tauto

/-- An entry is put in the order of its id. -/
theorem putEntry_pairwise {e : Entry} {view : List Entry} (h : view.Pairwise (fun a b => a.id < b.id)) :
    (putEntry e view).Pairwise (fun a b => a.id < b.id) := by
  induction view with
  | nil => simp [putEntry]
  | cons f rest ih =>
    obtain ⟨hf, hrest⟩ := List.pairwise_cons.1 h
    unfold putEntry
    split
    · next hlt =>
      refine List.pairwise_cons.2 ⟨fun g hg => ?_, h⟩
      obtain rfl | hg := List.mem_cons.1 hg
      · exact hlt
      · exact hlt.trans (hf g hg)
    · split
      · next heq => exact List.pairwise_cons.2 ⟨fun g hg => heq ▸ hf g hg, hrest⟩
      · refine List.pairwise_cons.2 ⟨fun g hg => ?_, ih hrest⟩
        obtain rfl | hg := mem_putEntry hg
        · omega
        · exact hf g hg

/-- The module part of a settled entry is that of a MODULE (R36, R37). -/
theorem partAfter_of_not_module {before : Option Entry} {k : Kind} (payload : List Byte)
    (hbefore : ∀ e, before = some e → e.role ≠ .module → e.part = none) (hk : k.role ≠ .module) :
    partAfter before k payload = none := by
  unfold partAfter
  split
  · simp [Kind.role] at hk
  · split
    · next heq => exact hbefore _ rfl (heq ▸ hk)
    · rfl
  · rfl

theorem settleEntry_viewSafe {s : State} (h : s.ViewSafe) {rx : Received} (hlt : rx.source < 16)
    (hne : rx.source ≠ s.mdu.station) : (s.settleEntry rx).ViewSafe := by
  obtain ⟨hsorted, hform⟩ := h
  refine ⟨by simpa [State.settleEntry] using putEntry_pairwise hsorted, fun e he => ?_⟩
  simp only [State.settleEntry, State.setView_fields, State.setView_rest] at he ⊢
  obtain rfl | he := mem_putEntry he
  · refine ⟨hlt, hne, by simp, fun hrole => partAfter_of_not_module _ (fun e he => ?_) hrole⟩
    exact (hform e (List.mem_of_find?_eq_some he)).2.2.2
  · exact hform e he

/-- An entry a period older is the same entry below age 8 (R38). -/
theorem older_eq_some {e e' : Entry} (h : e.older = some e') : e' = { e with age := e.age + 1 } ∧ e.age + 1 < 8 := by
  unfold Entry.older at h
  split at h
  · simp at h
  · exact ⟨by simpa using h.symm, by omega⟩

theorem ageView_viewSafe {s : State} (h : s.ViewSafe) : s.ageView.ViewSafe := by
  obtain ⟨hsorted, hform⟩ := h
  refine ⟨?_, fun e' he' => ?_⟩
  · simp only [State.ageView, State.setView_fields, agedView]
    refine List.Pairwise.filterMap _ (fun a b hab a' ha b' hb => ?_) hsorted
    obtain ⟨rfl, -⟩ := older_eq_some ha
    obtain ⟨rfl, -⟩ := older_eq_some hb
    exact hab
  · simp only [State.ageView, State.setView_fields, State.setView_rest, agedView, List.mem_filterMap] at he' ⊢
    obtain ⟨e, he, hold⟩ := he'
    obtain ⟨rfl, hage⟩ := older_eq_some hold
    obtain ⟨hid, hstation, -, hpart⟩ := hform e he
    exact ⟨hid, hstation, hage, hpart⟩

theorem viewSafe_congr {s t : State} (hview : t.pvt.view = s.pvt.view) (hstation : t.mdu.station = s.mdu.station)
    (h : s.ViewSafe) : t.ViewSafe := by
  unfold State.ViewSafe at *
  rwa [hview, hstation]

theorem Move.viewSafe {s t : State} (h : Move s t) (hs : s.ViewSafe) : t.ViewSafe := by
  cases h with
  | quiet h => exact viewSafe_congr h.view h.station hs
  | recompute h => exact viewSafe_congr (by simp [h.view]) (by simp [h.station]) hs
  | raise h => exact viewSafe_congr (by simp [h.view]) (by simp [h.station]) hs
  | settle rx hlt hne => exact settleEntry_viewSafe hs hlt hne
  | age => exact ageView_viewSafe hs
  | _ => exact viewSafe_congr (by simp) (by simp) hs

theorem Change.viewSafe {s t : State} (h : Change s t) (hs : s.ViewSafe) : t.ViewSafe := by
  cases h with
  | move h => exact h.viewSafe hs
  | @injector u h =>
    have hu : u.ViewSafe := viewSafe_congr h.view h.station hs
    obtain e | e | e := latch_cases (f := .injector) (.inr (.inl rfl)) (by decide) u <;>
      exact viewSafe_congr (by simp [State.injectorFails, e]) (by simp [State.injectorFails, e]) hu
  | measured _ h hm =>
    have hv := hm.keeps Move.viewSafe (viewSafe_congr h.view h.station hs)
    exact viewSafe_congr (by simp) (by simp) hv
  | configure | failImage | scanSlot => exact hs
  | configHold => exact viewSafe_congr (by simp [State.endStartFailed]) (by simp [State.endStartFailed]) hs
  | run => exact viewSafe_congr (by simp [State.enterRun]) (by simp [State.enterRun]) hs
  | powerFail => exact viewSafe_congr (by simp [State.powerDeparts]) (by simp [State.powerDeparts]) hs
  | dormant => exact ⟨List.Pairwise.nil, nofun⟩
  | _ => exact viewSafe_congr (by simp) (by simp) hs

/-- Settles O60: a reset keeps the store and empties the table and the view, and every change keeps the three
invariants. -/
theorem logKept : Obligations.LogKept := by
  refine ⟨fun s t hs h => ?_, fun s t hs hm h ht => ?_, fun s t hs h => ?_⟩
  · obtain ⟨u, hu, station, phase, clock, rfl⟩ | hr := step_cases h
    · refine ⟨?_, rfl, fun slot n hn => ?_, trivial⟩
      · exact hu ▸ hs.1
      · exact absurd ((slotEntry_empty 16 slot).symm.trans hn) (by simp)
    · exact hr.keeps Change.logHeld hs
  · obtain ⟨u, -, station, phase, clock, rfl⟩ | hr := step_cases h
    · exact absurd rfl ht
    · exact (hr.keeps Change.logRuns ⟨hm, hs⟩).2
  · obtain ⟨u, -, station, phase, clock, rfl⟩ | hr := step_cases h
    · exact ⟨List.Pairwise.nil, nofun⟩
    · exact hr.keeps Change.viewSafe hs

end Sys2Proof.Machine
end

section
/-! PROOF. The resets and the short commands (O1, O13, O18 to O20, O47, O48, O53, O54): each command's effect written
out over the conditions of its rule. -/

namespace Sys2Proof.Machine

/-! ## Resets -/

/-- Settles O1: the reset states are the start values of every block, by definition. -/
theorem resets : Obligations.Resets := by
  refine ⟨fun id phase s => ⟨rfl, rfl⟩, ?_⟩
  refine ⟨rfl, rfl, rfl, rfl, rfl, rfl, rfl, rfl, rfl, rfl, rfl, rfl, rfl, rfl, rfl, rfl, rfl, rfl, rfl, rfl,
    rfl, rfl, rfl, rfl, rfl, rfl, rfl, rfl, rfl, rfl, rfl, rfl, rfl, rfl, rfl, rfl, rfl, rfl, rfl, rfl,
    rfl, rfl, rfl, rfl, rfl, rfl, rfl, rfl, rfl⟩

/-- Settles O54: nothing is claimed, metered, PENDING or held at reset. -/
theorem resetSafe : Obligations.ResetSafe :=
  ⟨⟨rfl, rfl, fun _ => rfl⟩, ⟨rfl, nofun⟩,
    chargeSafe_of_unclaimed (by simp [State.reset, State.atStart, Share.start, Share.Formed]) rfl,
    sessionSafe_of_closed rfl rfl fun _ => rfl, openingSafe_of_unclear rfl, rfl, ⟨rfl, List.nodup_nil, trivial⟩,
    ⟨rfl, rfl, fun slot n hn => absurd ((slotEntry_empty 16 slot).symm.trans hn) (by simp), trivial⟩,
    ⟨List.Pairwise.nil, nofun⟩⟩

/-- Settles O53, by the definition of a step. -/
theorem stepRunsFrontCommand : Obligations.StepRunsFrontCommand := by
  intro c rest s h
  simp [step, h]

/-! ## Periods, windows and levels -/

/-- Settles O13, by the meanings of the two commands where the blocks run. -/
theorem periodsBegin : Obligations.PeriodsBegin := by
  intro s h
  simp [exec, execScanStart, execStepBoundary, State.runs, h, State.stepBoundary, scanPeriod, stepTime]

/-- Settles O19: the window that runs out begins the first phase, and the intent timer stops. -/
theorem windowEnds : Obligations.WindowEnds := by
  refine ⟨fun left s hseq hfresh => ?_, fun left s hpeer => ?_⟩
  · simp [exec, execWindowTimerExpiry, hseq, hfresh, State.startInjecting, State.setSeq, State.clearSums, Seq.timed,
      Seq.flag, Seq.switch, Phase.switch, Seq.samplingClock, insulationPeriod]
  · by_cases hlt : left < 300000 <;> simp [exec, execPeerIntentTimerExpiry, hpeer, hasRun, windowTime, hlt]

/-- Settles O20, over the two sides of the idle time. -/
theorem busSensing : Obligations.BusSensing := by
  intro s hruns hattempt
  refine ⟨fun hq => ?_, fun hq => ?_, fun hq => ?_, fun hq => ?_⟩
  · simp [exec, execBusIdle, State.runs, hruns, hattempt, hq, PeerBus.idles, idleTime]
  · simp [exec, execBusIdle, hq]
  · simp [exec, execBusActivity, execHoldoffRunsOut, State.hearLevel, State.runs, State.busIdle, idleTime, hruns,
      hattempt, hq]
  · have hbusy : ¬ 80 ≤ s.pbi.quiet := by omega
    simp [exec, execBusActivity, execHoldoffRunsOut, State.hearLevel, State.runs, State.busIdle, idleTime, hruns, hbusy]

/-! ## Wake and DORMANT -/

theorem dormantTest_enters {before s : State} (h : s.dormantReady = true) (hb : before.dormantReady = false) :
    State.dormantTest before s = s.enterDormant := by
  simp [State.dormantTest, h, hb]

theorem dormantTest_unready {before s : State} (h : s.dormantReady = false) : State.dormantTest before s = s := by
  simp [State.dormantTest, h]

/-- The conditions of the entry (R173). -/
theorem dormantReady_iff (s : State) :
    s.dormantReady = true ↔
      s.mdu.mode = .run ∧ s.mdu.dormantTimer = .expired ∧ s.slu.session = .idle ∧ s.pins.plug = false ∧
      s.slu.buffer = none ∧ (s.imon.seq = .off ∨ ∃ left, s.imon.seq = .waiting left) ∧
      (s.mdu.cfg.wakeBus = true ∨ s.mdu.cfg.wakePlug = true) := by
  have hidle : s.slu.session.isIdle = true ↔ s.slu.session = .idle := by
    cases s.slu.session <;> simp [Session.isIdle]
  unfold State.dormantReady
  cases hseq : s.imon.seq <;> simp [hidle, and_assoc]

/-- Settles O48, over whether the station is asleep and whether the wake source is enabled. -/
theorem wakeEvents : Obligations.WakeEvents := by
  intro s
  refine ⟨fun hm hs => ?_, fun h => ?_, fun h => ?_⟩
  · have hasleep : s.asleep = true := by simp [State.asleep, hm, hs]
    constructor
    · cases hw : s.mdu.cfg.wakeBus <;> simp [exec, execTelegramStartEvent, hasleep, hw, State.wake, settleTime, ← hs]
    · cases hw : s.mdu.cfg.wakePlug <;> simp [exec, execPlugAssertion, hasleep, hw, State.wake, settleTime, ← hs]
  · have hawake : s.asleep = false := by
      obtain h | h := h <;> simp [State.asleep, h]
      exact fun _ => Option.isSome_iff_ne_none.2 h
    simp [exec, execTelegramStartEvent, execPlugAssertion, hawake]
  · exact congrArg Host.Outcome.next (dormantTest_of_timer h)

/-- Settles O47: with a condition missing the entry test fails, and with the last one met it passes. -/
theorem dormantEntry : Obligations.DormantEntry := by
  intro s
  refine ⟨fun left ht hlt hm h => ?_, fun hm hs hb hq hw c hc => ?_⟩
  · have hunready : State.dormantReady { s with mdu.dormantTimer := .expired } = false := by
      rw [← Bool.not_eq_true, dormantReady_iff]
      rintro ⟨-, -, hsession, hplug, hbuffer, -, hwake⟩
      simp only at hsession hplug hbuffer hwake
      simp_all
    have hlt' : left < s.dormantTime := by simpa [State.dormantTime] using hlt
    simp only [exec, execDormantTimerExpiry, ht, if_pos hlt', dormantTest_unready hunready]
  · obtain ⟨rfl, ⟨left, ht, hlt⟩, hplug⟩ | ⟨rfl, ht, hplug⟩ := hc
    · have hready : State.dormantReady { s with mdu.dormantTimer := .expired } = true :=
        (dormantReady_iff _).2 ⟨hm, rfl, hs, hplug, hb, hq, hw⟩
      have hbefore : s.dormantReady = false := by simp [State.dormantReady, ht]
      have hlt' : left < s.dormantTime := by simpa [State.dormantTime] using hlt
      simp only [exec, execDormantTimerExpiry, ht, if_pos hlt', dormantTest_enters hready hbefore]
      have hpins : ({ s.pins with plug := false } : Pins) = s.pins := by rw [← hplug]
      rw [hpins]
      rfl
    · have hready : State.dormantReady { s with pins.plug := false } = true :=
        (dormantReady_iff _).2 ⟨hm, ht, hs, rfl, hb, hq, hw⟩
      have hbefore : s.dormantReady = false := by simp [State.dormantReady, hplug]
      simp only [exec, execPlugRelease, dormantTest_enters hready hbefore]
      rfl

/-! ## A turn on the HV bus -/

/-- A claim on the HV bus: an intent of the last 300 ms, or a FRESH entry with the injecting flag (R97). -/
theorem busClaimed_iff (s : State) :
    s.busClaimed = true ↔
      (∃ left, s.imon.peerIntent = some left) ∨
        ∃ e ∈ s.pvt.view, ∃ p, e.age < 3 ∧ e.part = some p ∧ p.injecting = true := by
  have hentry : ∀ e : Entry, e.showsInjecting = true ↔ ∃ p, e.age < 3 ∧ e.part = some p ∧ p.injecting = true := by
    intro e
    cases hp : e.part <;> simp [Entry.showsInjecting, Entry.fresh, hp]
  simp [State.busClaimed, Option.isSome_iff_exists, hentry]

/-- Settles O18, over whether the HV bus is claimed. -/
theorem turnTaken : Obligations.TurnTaken := by
  intro c left s hc hattempt
  have htimer : exec c s = .next (if s.imon.timerFresh then s else s.takeTurn) := by
    obtain ⟨rfl, hseq⟩ | ⟨rfl, hseq⟩ := hc
    · simp [exec, execIntervalTimerExpiry, hseq]
    · simp [exec, execHoldoffTimerExpiry, hseq]
  rw [htimer]
  refine ⟨fun hf => by simp [hf], fun hf hfree => ?_, fun hf hclaim => ?_⟩
  · have hb : s.busClaimed = false := by
      rw [← Bool.not_eq_true, busClaimed_iff]
      rintro (⟨l, hl⟩ | ⟨e, he, p, hage, hp, hi⟩)
      · simp [hfree.1] at hl
      · simp [hfree.2 e he p hage hp] at hi
    simp [hf, State.takeTurn, hb, State.startIntent, State.loadIntent, PeerBus.attempting, hattempt, State.setSeq,
      State.nextIntent, TxSlot.fresh, lowByte, Seq.timed, Seq.flag, Seq.switch, Seq.samplingClock]
  · have hb : s.busClaimed = true := (busClaimed_iff s).2 hclaim
    simp [hf, State.takeTurn, hb, State.enterHoldoff, State.draw, nextRandom, State.setSeq, Seq.timed, Seq.flag,
      Seq.switch, Seq.samplingClock]

end Sys2Proof.Machine
end

section
/-! PROOF. The queue (O52): no command's effect touches the queue or the free index. -/

namespace Sys2Proof.Machine

/-- The queue and the free index as they were. -/
def SameQueue (s t : State) : Prop := t.pending = s.pending ∧ t.freeIndex = s.freeIndex

theorem SameQueue.refl (s : State) : SameQueue s s := ⟨rfl, rfl⟩

theorem sameQueue_ite {s t u : State} {p : Prop} [Decidable p] (ht : SameQueue s t) (hu : SameQueue s u) :
    SameQueue s (if p then t else u) := by
  split
  · exact ht
  · exact hu

theorem completeTelegram_sameQueue (s : State) (k : Kind) (t : List Byte) {pass : Received → State → State}
    (hpass : ∀ rx u, SameQueue u (pass rx u)) : SameQueue s (s.completeTelegram k t pass) := by
  obtain ⟨e, -⟩ | ⟨rx, -, -, -, e⟩ | ⟨rx, -, -, -, e⟩ := completeTelegram_cases s k t pass <;> rw [e]
  · exact ⟨by simp, by simp⟩
  · exact ⟨by simp, by simp⟩
  · obtain ⟨hp, hf⟩ := hpass rx ((s.telegramEnds.settleEntry rx).heard k)
    exact ⟨by simp [hp], by simp [hf]⟩

theorem arrive_sameQueue (s : State) (k : Kind) (t : List Byte) {pass : Received → State → State}
    (hpass : ∀ rx u, SameQueue u (pass rx u)) : SameQueue s (s.arrive k t pass) := by
  have hreceive : SameQueue s (s.receive k t pass) := by
    unfold State.receive
    refine sameQueue_ite (sameQueue_ite ?_ ⟨rfl, rfl⟩) (.refl s)
    exact completeTelegram_sameQueue s k t hpass
  exact ⟨by simpa [State.arrive] using hreceive.1, by simpa [State.arrive] using hreceive.2⟩

theorem scanFound_sameQueue (s : State) (found : Fin 16 → Option Nat) : SameQueue s (s.scanFound found) := by
  unfold State.scanFound
  split
  · exact ⟨by simp, by simp⟩
  · exact .refl s

theorem reportDrop_sameQueue (s : State) (k : SlotKind) (dropped : Bool) : SameQueue s (s.reportDrop k dropped) := by
  unfold State.reportDrop
  split
  · exact ⟨by simp, by simp⟩
  · exact .refl s

theorem reportSuccess_sameQueue (s : State) (a : Attempt) : SameQueue s (s.reportSuccess a) := by
  unfold State.reportSuccess
  split <;> exact ⟨by simp, by simp⟩

theorem finishScan_sameQueue (s : State) (ustr : BitVec 12) (temps : Sensors (Option Int)) (ref : BitVec 12) :
    SameQueue s (s.finishScan ustr temps ref) := by
  unfold State.finishScan State.refLatch State.publishScan
  split <;> exact ⟨by simp, by simp⟩

theorem scanConsumers_sameQueue (s : State) (meterFirst : Bool) : SameQueue s (s.scanConsumers meterFirst) := by
  unfold State.scanConsumers
  exact sameQueue_ite ⟨by simp, by simp⟩ ⟨by simp, by simp⟩

theorem overdrawHold_sameQueue (s : State) : SameQueue s s.overdrawHold := by
  unfold State.overdrawHold
  exact sameQueue_ite ⟨by simp, by simp⟩ (.refl s)

theorem commitBuffer_sameQueue (s : State) (b : Buffer) : SameQueue s (s.commitBuffer b) := ⟨rfl, rfl⟩

theorem writeDone_sameQueue (s : State) (success : Bool) (b : Buffer) : SameQueue s (s.writeDone success b) := by
  unfold State.writeDone
  refine sameQueue_ite ?_ ?_
  · exact ⟨by simp [State.commitBuffer], by simp [State.commitBuffer]⟩
  · split <;> exact ⟨by simp, by simp⟩

theorem clearFlags_sameQueue (s : State) (named : FlagSet) : SameQueue s (s.clearFlags named) := by
  have hclear : ∀ u : State, u.injectorCleared.pending = u.pending ∧ u.injectorCleared.freeIndex = u.freeIndex := by
    intro u
    simp [State.injectorCleared]
  unfold State.clearFlags
  split
  · exact .refl s
  · exact sameQueue_ite ⟨by simp [hclear], by simp [hclear]⟩ ⟨by simp, by simp⟩

theorem powerFailByMode_sameQueue (s : State) : SameQueue s s.powerFailByMode := by
  unfold State.powerFailByMode
  split <;> exact ⟨by simp, by simp⟩

theorem SameQueue.trans {s t u : State} (h : SameQueue s t) (h' : SameQueue t u) : SameQueue s u :=
  ⟨h'.1.trans h.1, h'.2.trans h.2⟩

theorem dormantTest_sameQueue {before s t : State} (h : SameQueue s t) : SameQueue s (State.dormantTest before t) :=
  h.trans ⟨by simp, by simp⟩

/-- Settles O52, command by command. -/
theorem queueUntouched : Obligations.QueueUntouched := by
  intro c s
  cases c with
  | powerOnReset | rstn => exact ⟨_, rfl, rfl, rfl⟩
  | imageReadComplete image =>
    refine ⟨_, rfl, sameQueue_ite ?_ (.refl s)⟩
    unfold State.checkImage
    split <;> exact ⟨by simp, by simp⟩
  | imageReadTimeout =>
    refine ⟨_, rfl, ?_⟩
    split
    · exact sameQueue_ite ⟨by simp, by simp⟩ (.refl s)
    · exact ⟨rfl, rfl⟩
  | markerReadComplete => exact ⟨_, rfl, scanFound_sameQueue s _⟩
  | markerReadTimeout =>
    refine ⟨_, rfl, ?_⟩
    split
    · exact sameQueue_ite (scanFound_sameQueue s _) (.refl s)
    · exact ⟨rfl, rfl⟩
  | meteringSample v i meterFirst =>
    refine ⟨_, rfl, sameQueue_ite ?_ (.refl s)⟩
    exact sameQueue_ite ⟨by simp, by simp⟩ ⟨by simp, by simp⟩
  | lossCountReached => exact ⟨_, rfl, sameQueue_ite ⟨by simp, by simp⟩ (.refl s)⟩
  | rmsWindowComplete | scanStart | stepBoundary | busIdle | holdoffRunsOut | peerIntentTimerExpiry =>
    exact ⟨_, rfl, sameQueue_ite ⟨rfl, rfl⟩ (.refl s)⟩
  | scanComplete ustr t1 t2 t3 t4 th ref meterFirst =>
    exact ⟨_, rfl, sameQueue_ite (dormantTest_sameQueue ((finishScan_sameQueue s _ _ _).trans
      (scanConsumers_sameQueue _ _))) (.refl s)⟩
  | insulationSample code =>
    refine ⟨_, rfl, ?_⟩
    split
    · exact dormantTest_sameQueue ⟨by simp, by simp⟩
    · exact ⟨rfl, rfl⟩
  | attemptStart =>
    refine ⟨_, rfl, ?_⟩
    split <;> exact ⟨rfl, rfl⟩
  | collision =>
    refine ⟨_, rfl, ?_⟩
    split
    · next a _ =>
      have hbus : SameQueue s { s with pbi := s.pbi.collide a.slot } := ⟨rfl, rfl⟩
      exact dormantTest_sameQueue (hbus.trans (reportDrop_sameQueue _ _ _))
    · exact ⟨rfl, rfl⟩
  | attemptSuccess =>
    refine ⟨_, rfl, ?_⟩
    split
    · exact SameQueue.trans ⟨by simp, by simp⟩ (reportSuccess_sameQueue _ _)
    · exact ⟨rfl, rfl⟩
  | telegramDiscarded =>
    refine ⟨_, rfl, sameQueue_ite ?_ (.refl s)⟩
    exact sameQueue_ite ⟨by simp, by simp⟩ ⟨by simp, by simp⟩
  | beaconArrival t =>
    exact ⟨_, rfl, arrive_sameQueue s _ t fun rx u => sameQueue_ite ⟨by simp, by simp⟩ (.refl u)⟩
  | contractArrival t =>
    exact ⟨_, rfl, arrive_sameQueue s _ t fun rx u => ⟨by simp [State.peerContract], by simp [State.peerContract]⟩⟩
  | haltArrival t =>
    exact ⟨_, rfl, arrive_sameQueue s _ t fun rx u => ⟨by simp [State.peerHalt], by simp [State.peerHalt]⟩⟩
  | injectIntentArrival t =>
    exact ⟨_, rfl, arrive_sameQueue s _ t fun rx u => ⟨by simp [State.peerIntentHeard],
        by simp [State.peerIntentHeard]⟩⟩
  | isoResultArrival t =>
    refine ⟨_, rfl, arrive_sameQueue s _ t fun rx u => ?_⟩
    unfold State.peerResult
    split <;> exact ⟨by simp, by simp⟩
  | logReadArrival t =>
    exact ⟨_, rfl, arrive_sameQueue s _ t fun rx u => sameQueue_ite ⟨by simp, by simp⟩ (.refl u)⟩
  | logRecordArrival t => exact ⟨_, rfl, arrive_sameQueue s _ t fun rx u => .refl u⟩
  | flagClearArrival t =>
    exact ⟨_, rfl, arrive_sameQueue s _ t fun rx u => sameQueue_ite (clearFlags_sameQueue u _) (.refl u)⟩
  | ownBeaconPeriod ageFirst => exact ⟨_, rfl, sameQueue_ite ⟨by simp, by simp⟩ (.refl s)⟩
  | contractLoss => exact ⟨_, rfl, sameQueue_ite (dormantTest_sameQueue ⟨by simp, by simp⟩) (.refl s)⟩
  | oneSecondAdvance => exact ⟨_, rfl, sameQueue_ite ⟨by simp, by simp⟩ (.refl s)⟩
  | overdrawTimerExpiry =>
    refine ⟨_, rfl, sameQueue_ite (dormantTest_sameQueue ?_) (.refl s)⟩
    exact SameQueue.trans ⟨by simp, by simp⟩ (overdrawHold_sameQueue _)
  | intervalTimerExpiry | holdoffTimerExpiry | windowTimerExpiry =>
    refine ⟨_, rfl, ?_⟩
    split
    · exact sameQueue_ite (.refl s) ⟨by simp, by simp⟩
    · exact ⟨rfl, rfl⟩
  | pendingTimerExpiry =>
    refine ⟨_, rfl, ?_⟩
    split
    · exact sameQueue_ite (dormantTest_sameQueue ⟨by simp, by simp⟩) (.refl s)
    · exact ⟨rfl, rfl⟩
  | lineLossTimerExpiry =>
    refine ⟨_, rfl, ?_⟩
    split
    · exact sameQueue_ite (dormantTest_sameQueue ⟨by simp, by simp⟩) (.refl s)
    · exact ⟨rfl, rfl⟩
  | storeWriteCompletion success =>
    refine ⟨_, rfl, ?_⟩
    split
    · exact dormantTest_sameQueue (writeDone_sameQueue s _ _)
    · exact ⟨rfl, rfl⟩
  | dormantTimerExpiry =>
    refine ⟨_, rfl, ?_⟩
    split
    · exact sameQueue_ite (dormantTest_sameQueue ⟨rfl, rfl⟩) (.refl s)
    · exact ⟨rfl, rfl⟩
  | telegramStartEvent => exact ⟨_, rfl, sameQueue_ite ⟨rfl, rfl⟩ (.refl s)⟩
  | plugAssertion => exact ⟨_, rfl, sameQueue_ite ⟨rfl, rfl⟩ ⟨rfl, rfl⟩⟩
  | plugRelease => exact ⟨_, rfl, dormantTest_sameQueue ⟨rfl, rfl⟩⟩
  | wakeSettlingEnd => exact ⟨_, rfl, sameQueue_ite ⟨by simp, by simp⟩ (.refl s)⟩
  | pwrFailAssertion => exact ⟨_, rfl, powerFailByMode_sameQueue { s with pins.pwrFail := true }⟩
  | pwrFailRelease => exact ⟨_, rfl, rfl, rfl⟩
  | busActivity => exact ⟨_, rfl, sameQueue_ite (sameQueue_ite ⟨rfl, rfl⟩ ⟨rfl, rfl⟩) (.refl s)⟩

end Sys2Proof.Machine
end

section
/-! PROOF. Telegrams (O24 to O27): the levels on the wire, the round trip through the checks, and the CRC, which no
change of one byte leaves as it was. -/

namespace Sys2Proof.Machine

/-! ## Levels on the wire (R19) -/

theorem byteLevels_length (b : Byte) : (byteLevels b).length = 10 := rfl

theorem wireLevels_length (t : List Byte) : (wireLevels t).length = 10 * t.length := by
  induction t with
  | nil => rfl
  | cons b rest ih =>
    rw [wireLevels, List.flatMap_cons, List.length_append, ← wireLevels, ih, byteLevels_length, List.length_cons]
    omega

/-- Every tenth level is a start bit, which is dominant. -/
theorem wireLevels_start {t : List Byte} {q : Nat} (h : q < t.length) : (wireLevels t)[10 * q]? = some true := by
  induction t generalizing q with
  | nil => simp at h
  | cons b rest ih =>
    rw [wireLevels, List.flatMap_cons, ← wireLevels]
    cases q with
    | zero => rfl
    | succ q =>
      rw [List.getElem?_append_right (by rw [byteLevels_length]; omega), byteLevels_length,
        show 10 * (q + 1) - 10 = 10 * q by omega]
      exact ih (by simpa using h)

theorem frame_length (source : Nat) (k : Kind) (payload : List Byte) :
    (frame source k payload).length = payload.length + 5 := by
  simp [frame, telegramBody, be16]

theorem wireTime_frame (source : Nat) (k : Kind) (payload : List Byte) :
    wireTime (frame source k payload) = (5 + payload.length) * 20 := by
  rw [wireTime, wireLevels_length, frame_length, bitTime]
  omega

/-- Settles O24: ten levels in a row hold the start bit of a byte. -/
theorem recessiveStretch : Obligations.RecessiveStretch := by
  refine ⟨wireTime_frame, fun t i h => ?_⟩
  rw [wireLevels_length] at h
  refine ⟨10 * ((i + 9) / 10) - i, by omega, ?_⟩
  rw [show i + (10 * ((i + 9) / 10) - i) = 10 * ((i + 9) / 10) by omega]
  exact wireLevels_start (by omega)

/-! ## The round trip (R33, R177) -/

theorem kind_code_lt (k : Kind) : k.code < 16 := by cases k <;> decide

theorem ofCode_code (k : Kind) : Kind.ofCode k.code = some k := by cases k <;> rfl

/-- No payload of a permitted length is longer than 56 bytes. -/
theorem permits_le {k : Kind} {l : Nat} (h : k.permits l = true) : l ≤ 56 := by
  cases k <;> simp [Kind.permits] at h <;> omega

/-- The CRC field of a telegram, after its payload. -/
theorem rd16_after (payload : List Byte) {n : Nat} (h : n ≤ 65535) : rd16 (payload ++ be16 n) payload.length = n := by
  simp [rd16, rd8, be16, lowByte_toNat, List.getD_eq_getElem?_getD]
  omega

/-- Settles O25, by the fields of the frame as the checks read them. -/
theorem telegramRoundTrip : Obligations.TelegramRoundTrip := by
  intro source k payload hs hp
  have hcode := kind_code_lt k
  have hle := permits_le hp
  have hlen : (lowByte payload.length).toNat = payload.length := by rw [lowByte_toNat]; omega
  have hhead : (lowByte (source * 16 + k.code)).toNat = source * 16 + k.code := by rw [lowByte_toNat]; omega
  have hcrc : (crc16 (telegramBody source k payload)).toNat ≤ 65535 := by
    have := (crc16 (telegramBody source k payload)).isLt
    omega
  have hfield := rd16_after payload hcrc
  have htail : (payload ++ be16 (crc16 (telegramBody source k payload)).toNat).length = payload.length + 2 := by
    simp [be16]
  have hkind : Kind.ofCode ((source * 16 + k.code) % 16) = some k := by
    rw [show (source * 16 + k.code) % 16 = k.code by omega, ofCode_code]
  have hsource : (source * 16 + k.code) / 16 = source := by omega
  unfold frame
  simp only [telegramBody, List.cons_append] at hfield htail ⊢
  simp only [checkTelegram, hlen, hhead, hfield, htail, hkind, hp, hsource, hle, List.take_left', if_true, and_self]

/-! ## The CRC (R33) -/

theorem crcShift_lsb (c : BitVec 16) : (crcShift c).getLsbD 0 = c.msb := by
  unfold crcShift
  cases h : c.msb <;> simp

/-- The shift by one bit loses nothing: the bit shifted out comes back as the lowest. -/
theorem crcShift_injective {c d : BitVec 16} (h : crcShift c = crcShift d) : c = d := by
  have hmsb : c.msb = d.msb := by rw [← crcShift_lsb, h, crcShift_lsb]
  have hshift : c <<< 1 = d <<< 1 := by
    unfold crcShift at h
    rw [hmsb] at h
    split at h
    · exact (BitVec.xor_left_inj _).1 h
    · exact h
  apply BitVec.eq_of_getLsbD_eq
  intro i hi
  by_cases h15 : i = 15
  · subst h15
    simpa [BitVec.msb_eq_getLsbD_last] using hmsb
  · have hbit := congrArg (fun x => x.getLsbD (i + 1)) hshift
    have hlt : i + 1 < 16 := by omega
    simpa [hlt, hi] using hbit

theorem crcByte_injective_left {c d : BitVec 16} {b : Byte} (h : crcByte c b = crcByte d b) : c = d := by
  unfold crcByte at h
  iterate 8 replace h := crcShift_injective h
  exact (BitVec.xor_left_inj _).1 h

theorem crcByte_injective_right {c : BitVec 16} {a b : Byte} (h : crcByte c a = crcByte c b) : a = b := by
  unfold crcByte at h
  iterate 8 replace h := crcShift_injective h
  have hshift := (BitVec.xor_right_inj _).1 h
  apply BitVec.eq_of_getLsbD_eq
  intro i hi
  have hbit := congrArg (fun x => x.getLsbD (i + 8)) hshift
  have hlt : i + 8 < 16 := by omega
  simpa [hlt, hi] using hbit

theorem foldl_crcByte_injective {l : List Byte} {c d : BitVec 16} (h : l.foldl crcByte c = l.foldl crcByte d) :
    c = d := by
  induction l generalizing c d with
  | nil => exact h
  | cons b rest ih => exact crcByte_injective_left (ih h)

/-- A byte changed changes what the CRC comes to, from any start. -/
theorem foldl_crcByte_set {l : List Byte} {i : Nat} {b : Byte} (hi : i < l.length) (hb : l[i]? ≠ some b)
    (c : BitVec 16) : (l.set i b).foldl crcByte c ≠ l.foldl crcByte c := by
  induction l generalizing i c with
  | nil => simp at hi
  | cons a rest ih =>
    cases i with
    | zero =>
      intro h
      have := crcByte_injective_right (foldl_crcByte_injective h)
      simp [this] at hb
    | succ i => exact ih (by simpa using hi) (by simpa using hb) (crcByte c a)

theorem crc16_set {l : List Byte} {i : Nat} {b : Byte} (hi : i < l.length) (hb : l[i]? ≠ some b) :
    crc16 (l.set i b) ≠ crc16 l :=
  foldl_crcByte_set hi hb _

/-! ## A byte changed (R33) -/

/-- What the checks ask of the header, the length and the CRC of a telegram with a CRC field of two bytes. -/
theorem checkTelegram_passes {d h l x y : Byte} {payload : List Byte} {rx : Received}
    (hc : checkTelegram (d :: h :: l :: (payload ++ [x, y])) = some rx) :
    d = delimiter ∧ l.toNat = payload.length ∧
      (crc16 (h :: l :: payload)).toNat = x.toNat * 256 + y.toNat := by
  simp only [checkTelegram, List.length_append, List.length_cons, List.length_nil, Option.ite_none_right_eq_some] at hc
  obtain ⟨⟨hd, -, hlen, hcrc⟩, -⟩ := hc
  have hl : l.toNat = payload.length := by omega
  refine ⟨hd, hl, ?_⟩
  rw [hl, List.take_left' rfl] at hcrc
  rw [hcrc]
  simp [rd16, rd8, List.getD_eq_getElem?_getD]

/-- A telegram that passes the checks fails them with any one byte changed. -/
theorem checkTelegram_set {h l x y : Byte} {payload : List Byte} (hl : l.toNat = payload.length)
    (hcrc : (crc16 (h :: l :: payload)).toNat = x.toNat * 256 + y.toNat) {i : Nat} {b : Byte}
    (hi : i < payload.length + 5) (hb : (delimiter :: h :: l :: (payload ++ [x, y]))[i]? ≠ some b) :
    checkTelegram ((delimiter :: h :: l :: (payload ++ [x, y])).set i b) = none := by
  rw [Option.eq_none_iff_forall_ne_some]
  intro rx hc
  have hcrc' : ∀ body : List Byte, (crc16 body).toNat = x.toNat * 256 + y.toNat →
      crc16 body = crc16 (h :: l :: payload) :=
    fun body hbody => BitVec.eq_of_toNat_eq (by rw [hbody, hcrc])
  match i, hb with
  | 0, hb =>
    obtain ⟨hd, -, -⟩ := checkTelegram_passes (by simpa using hc)
    simp [hd] at hb
  | 1, hb =>
    obtain ⟨-, -, hnew⟩ := checkTelegram_passes (by simpa using hc)
    exact crc16_set (l := h :: l :: payload) (i := 0) (by simp) (by simpa using hb) (hcrc' _ hnew)
  | 2, hb =>
    obtain ⟨-, hlen, -⟩ := checkTelegram_passes (by simpa using hc)
    exact hb (by simpa using BitVec.eq_of_toNat_eq (hl.trans hlen.symm))
  | k + 3, hb =>
    simp only [List.set_cons_succ, List.getElem?_cons_succ] at hc hb
    by_cases hk : k < payload.length
    · rw [List.set_append_left _ _ hk] at hc
      rw [List.getElem?_append_left hk] at hb
      obtain ⟨-, -, hnew⟩ := checkTelegram_passes hc
      exact crc16_set (l := h :: l :: payload) (i := k + 2) (by simpa using hk) (by simpa using hb) (hcrc' _ hnew)
    · rw [List.set_append_right _ _ (by omega)] at hc
      rw [List.getElem?_append_right (by omega)] at hb
      obtain hk | hk : k - payload.length = 0 ∨ k - payload.length = 1 := by omega
      · rw [hk] at hc hb
        obtain ⟨-, -, hnew⟩ := checkTelegram_passes (by simpa using hc)
        have hx : x = b := BitVec.eq_of_toNat_eq (by omega)
        simp [hx] at hb
      · rw [hk] at hc hb
        obtain ⟨-, -, hnew⟩ := checkTelegram_passes (by simpa using hc)
        have hy : y = b := BitVec.eq_of_toNat_eq (by omega)
        simp [hy] at hb

/-- Settles O26: the byte changed is the delimiter, one that the CRC is computed over, or one of the CRC field; a
changed length byte is no longer the payload's length. -/
theorem damagedTelegram : Obligations.DamagedTelegram := by
  intro source k payload i b hs hp hi hb
  have hle := permits_le hp
  have hlt := (crc16 (telegramBody source k payload)).isLt
  rw [frame_length] at hi
  unfold frame be16 at hb ⊢
  refine checkTelegram_set ?_ ?_ hi hb
  · rw [lowByte_toNat]; omega
  · change (crc16 (telegramBody source k payload)).toNat = _
    rw [lowByte_toNat, lowByte_toNat]
    omega

/-- The indicator bits of a beacon. -/
theorem lowByte_indicators (x y : Bool) :
    (lowByte (bit x 1 + bit y 2))[0] = x ∧ (lowByte (bit x 1 + bit y 2))[1] = y := by
  revert x y
  decide

/-- Settles O27, by the places of the fields in the payload. -/
theorem beaconRoundTrip : Obligations.BeaconRoundTrip := by
  intro s hphase hclaim
  constructor
  · cases h : s.thu.tmin <;> simp [State.beaconPayload, be32, be16, beS16, h]
  · have hp : s.mdu.phase = 0 ∨ s.mdu.phase = 1 ∨ s.mdu.phase = 2 ∨ s.mdu.phase = 3 := by omega
    have hc : s.she.claim / 256 % 256 * 256 + s.she.claim % 256 = s.she.claim := by omega
    simp only [beaconPart, State.beaconPayload, rd8, rd16, be32, be16]
    simp [lowByte_toNat, hc, lowByte_indicators]
    obtain hp | hp | hp | hp := hp <;> simp [hp]

end Sys2Proof.Machine
end

section
/-! PROOF. The bus (O21 to O23, O28): the arbiter's choice, what a collision and a success leave in each slot, and what
is discarded. -/

namespace Sys2Proof.Machine

/-! ## The DORMANT entry test after a change of the bus -/

/-- The test makes no entry where the conditions are as they were (R173). -/
theorem dormantTest_same {s t : State} (h : t.dormantReady = s.dormantReady) : State.dormantTest s t = t := by
  cases hs : s.dormantReady <;> simp [State.dormantTest, h, hs]

theorem dormantTest_bus (s : State) (p : PeerBus) : State.dormantTest s { s with pbi := p } = { s with pbi := p } :=
  dormantTest_same rfl

/-! ## Attempts (R22, R26) -/

/-- An attempt that starts is that of the arbiter's choice (R26). -/
theorem exec_attemptStart {s : State} {k : SlotKind} (hruns : s.mdu.mode.runs = true) (hidle : 80 ≤ s.pbi.quiet)
    (hhold : s.pbi.holdoff = none) (hatt : s.pbi.attempt = none) (hk : s.pbi.choice = some k) :
    exec .attemptStart s = .next (s.beginAttempt k) := by
  have hmay : s.mayAttempt = true := by
    simp [State.mayAttempt, State.runs, State.busIdle, idleTime, hruns, hidle, hhold, hatt]
  simp [exec, execAttemptStart, hmay, hk]

/-- Settles O21, by the arbiter's order. -/
theorem attemptStarts : Obligations.AttemptStarts := by
  intro s slot kind payload hruns hidle hhold hatt hslot
  have hstart := fun k => exec_attemptStart (k := k) hruns hidle hhold hatt
  obtain ⟨x, hx, rfl, rfl, rfl⟩ | ⟨x, hi, hx, rfl, rfl, rfl⟩ | ⟨n, hi, hr, hn, rfl, rfl, rfl⟩ |
    ⟨x, hi, hr, hb, hx, rfl, rfl, rfl⟩ := hslot
  · rw [hstart .intent (by simp [PeerBus.choice, hx])]
    simp [State.beginAttempt, State.slotTelegram, hx, wireTime_frame]
  · rw [hstart .result (by simp [PeerBus.choice, hi, hx])]
    simp [State.beginAttempt, State.slotTelegram, hx, wireTime_frame]
  · rw [hstart .beacon (by simp [PeerBus.choice, hi, hr, hn])]
    simp [State.beginAttempt, State.slotTelegram, wireTime_frame]
  · rw [hstart .logReply (by simp [PeerBus.choice, hi, hr, hb, hx])]
    simp [State.beginAttempt, State.slotTelegram, hx, wireTime_frame]

/-! ## Collisions (R27, R30, R31) -/

/-- A collision without a report to the sequencer leaves the interface alone changed. -/
theorem exec_collision {s : State} {a : Attempt} (ha : s.pbi.attempt = some a)
    (hq : a.slot = .intent → 8 ≤ (s.pbi.failSlot .intent).failures .intent → s.imon.seq ≠ .pending) :
    exec .collision s = .next { s with pbi := s.pbi.collide a.slot } := by
  have hreport : State.reportDrop a.slot (retryLimit ≤ (s.pbi.failSlot a.slot).failures a.slot)
      { s with pbi := s.pbi.collide a.slot } = { s with pbi := s.pbi.collide a.slot } := by
    unfold State.reportDrop
    split
    · next hslot hdrop =>
      rw [hslot, decide_eq_true_eq] at hdrop
      have hne := hq hslot hdrop
      unfold State.intentDropped
      split
      · next hp => exact absurd hp hne
      · rfl
    · rfl
  simp only [exec, execCollision, ha]
  rw [hreport, dormantTest_bus]

/-- The interface after a collision of RESULT (R27, R24). -/
theorem collide_result (p : PeerBus) :
    p.collide .result =
      { p with
        attempt := none, quiet := 0, foreign := true, random := nextRandom p.random,
        holdoff := some (nextRandom p.random / 4096 * 64), heldResult := none,
        result :=
          match p.heldResult with
          | some b => some { payload := b, failed := 0 }
          | none => p.result.bind fun x =>
            if 8 ≤ x.failed + 1 then none else some { x with failed := x.failed + 1 } } := by
  cases hr : p.result with
  | none =>
    cases hh : p.heldResult <;>
      simp [PeerBus.collide, PeerBus.failSlot, PeerBus.failures, PeerBus.settleSlot, hr, hh, retryLimit, holdoffUnit,
        TxSlot.fresh]
  | some x =>
    cases hh : p.heldResult <;> by_cases hn : 7 ≤ x.failed <;>
      simp [PeerBus.collide, PeerBus.failSlot, PeerBus.failures, PeerBus.emptySlot, PeerBus.settleSlot, hr, hh, hn,
        retryLimit, holdoffUnit, TxSlot.fresh, TxSlot.fail]

/-- The interface after a collision of BEACON (R27, R23). -/
theorem collide_beacon (p : PeerBus) :
    p.collide .beacon =
      { p with
        attempt := none, quiet := 0, foreign := true, random := nextRandom p.random,
        holdoff := some (nextRandom p.random / 4096 * 64), heldBeacon := false,
        beacon :=
          if p.heldBeacon then some 0
          else p.beacon.bind fun n => if 8 ≤ n + 1 then none else some (n + 1) } := by
  cases hb : p.beacon with
  | none => simp [PeerBus.collide, PeerBus.failSlot, PeerBus.failures, PeerBus.settleSlot, hb, retryLimit, holdoffUnit]
  | some n =>
    by_cases hn : 7 ≤ n <;>
      simp [PeerBus.collide, PeerBus.failSlot, PeerBus.failures, PeerBus.emptySlot, PeerBus.settleSlot, hb, hn,
        retryLimit, holdoffUnit]

/-- The interface after a collision of LOG_REPLY (R27). -/
theorem collide_logReply (p : PeerBus) :
    p.collide .logReply =
      { p with
        attempt := none, quiet := 0, foreign := true, random := nextRandom p.random,
        holdoff := some (nextRandom p.random / 4096 * 64),
        logReply := p.logReply.bind fun x =>
          if 8 ≤ x.failed + 1 then none else some { x with failed := x.failed + 1 } } := by
  cases hl : p.logReply with
  | none => simp [PeerBus.collide, PeerBus.failSlot, PeerBus.failures, PeerBus.settleSlot, hl, retryLimit, holdoffUnit]
  | some x =>
    by_cases hn : 7 ≤ x.failed <;>
      simp [PeerBus.collide, PeerBus.failSlot, PeerBus.failures, PeerBus.emptySlot, PeerBus.settleSlot, hl, hn,
        retryLimit, holdoffUnit, TxSlot.fail]

/-- The interface after a collision of INTENT (R27, R24). -/
theorem collide_intent {p : PeerBus} {x : TxSlot} (hx : p.intent = some x) :
    p.collide .intent =
      { p with
        attempt := none, quiet := 0, foreign := true, random := nextRandom p.random,
        holdoff := some (nextRandom p.random / 4096 * 64), heldIntent := none, withdrawn := false,
        intent :=
          match p.heldIntent with
          | some b => some { payload := b, failed := 0 }
          | none =>
            if p.withdrawn = true ∨ 8 ≤ x.failed + 1 then none else some { x with failed := x.failed + 1 } } := by
  cases hh : p.heldIntent <;> by_cases hn : 7 ≤ x.failed <;> cases hw : p.withdrawn <;>
    simp [PeerBus.collide, PeerBus.failSlot, PeerBus.failures, PeerBus.emptySlot, PeerBus.settleSlot, hx, hh, hn, hw,
      retryLimit, holdoffUnit, TxSlot.fresh, TxSlot.fail]

theorem failures_intent {p : PeerBus} {x : TxSlot} (hx : p.intent = some x) :
    (p.failSlot .intent).failures .intent = x.failed + 1 := by
  simp [PeerBus.failSlot, PeerBus.failures, hx, TxSlot.fail]

/-- Settles O22, slot by slot; the eighth failure of a pending intent is reported to the sequencer. -/
theorem collisionBacksOff : Obligations.CollisionBacksOff := by
  refine ⟨fun a s ha => ⟨fun hslot => ?_, fun hslot => ?_, fun hslot => ?_, fun x hslot hx hfew => ?_⟩,
    fun a x s ha hslot hx hf hheld hseq => ?_⟩
  · rw [exec_collision ha (by simp [hslot]), hslot, collide_result]
    rfl
  · rw [exec_collision ha (by simp [hslot]), hslot, collide_beacon]
    rfl
  · rw [exec_collision ha (by simp [hslot]), hslot, collide_logReply]
    rfl
  · have hq : a.slot = .intent → 8 ≤ (s.pbi.failSlot .intent).failures .intent → s.imon.seq ≠ .pending := by
      rw [failures_intent hx]
      intro _ h8
      obtain h | h := hfew
      · omega
      · exact h
    rw [exec_collision ha hq, hslot, collide_intent hx]
    rfl
  · have hdrop : State.reportDrop a.slot (retryLimit ≤ (s.pbi.failSlot a.slot).failures a.slot)
        { s with pbi := s.pbi.collide a.slot } = State.enterHoldoff { s with pbi := s.pbi.collide .intent } := by
      simp [hslot, failures_intent hx, hf, retryLimit, State.reportDrop, State.intentDropped, hseq]
    have hexec : exec .collision s = .next (State.enterHoldoff { s with pbi := s.pbi.collide .intent }) := by
      simp only [exec, execCollision, ha]
      rw [hdrop, dormantTest_of_holdoff (left := _) rfl]
    refine ⟨_, hexec, ?_⟩
    simp [State.enterHoldoff, State.draw, State.setSeq, collide_intent hx, hheld, hf, nextRandom, Seq.flag]

/-! ## Successes (R28) -/

theorem intentSent_stays {s : State} (h : s.imon.seq ≠ .pending) : s.intentSent = s := by
  unfold State.intentSent
  split
  · next hp => exact absurd hp h
  · rfl

theorem beaconSent_share (s : State) (claim : Nat) :
    (s.beaconSent claim).she.claimTx = claim ∧ (s.beaconSent claim).she.drawn = min s.she.claim claim ∧
    (s.beaconSent claim).she.claim = s.she.claim ∧ (s.beaconSent claim).she.demand = s.she.demand := by
  unfold State.beaconSent
  split <;> simp [convert_spec]

/-- Settles O23, slot by slot. -/
theorem attemptSucceeds : Obligations.AttemptSucceeds := by
  intro a s ha
  have hexec : exec .attemptSuccess s = .next (State.reportSuccess a (State.telegramEnds
      { s with pbi := { (s.pbi.emptySlot a.slot).settleSlot a.slot with attempt := none } })) := by
    simp [exec, execAttemptSuccess, ha]
  refine ⟨fun hslot => ?_, fun hslot => ?_, fun hslot hseq hheld => ?_, fun hslot hseq => ?_, fun hslot => ?_⟩
  · rw [hexec, hslot]
    cases hh : s.pbi.heldResult <;>
      simp [State.reportSuccess, hslot, PeerBus.emptySlot, PeerBus.settleSlot, State.telegramEnds, State.takeUpEnds, hh,
        TxSlot.fresh]
  · rw [hexec, hslot]
    simp [State.reportSuccess, hslot, PeerBus.emptySlot, PeerBus.settleSlot, State.telegramEnds, State.takeUpEnds]
  · rw [hexec, hslot]
    simp [State.reportSuccess, hslot, PeerBus.emptySlot, PeerBus.settleSlot, State.telegramEnds, State.takeUpEnds,
      hheld, State.intentSent, hseq, State.setSeq, Seq.timed, Seq.flag, Seq.switch, Seq.samplingClock, windowTime]
  · rw [hexec, hslot]
    simp only [State.reportSuccess, hslot]
    rw [intentSent_stays (by simpa using hseq)]
    cases hh : s.pbi.heldIntent <;>
      simp [PeerBus.emptySlot, PeerBus.settleSlot, State.telegramEnds, State.takeUpEnds, hh, TxSlot.fresh]
  · refine ⟨_, hexec, ?_⟩
    simp [hslot, State.reportSuccess, beaconSent_share, PeerBus.emptySlot, PeerBus.settleSlot, State.telegramEnds,
      State.takeUpEnds]

/-! ## Discards (R20, R32, R33) -/

/-- Every arrival's command is an arrival of a kind, passed on in some way. -/
theorem arrival_arrives {t : List Byte} {c : Instr} (s : State)
    (hc : c ∈ [.beaconArrival t, .contractArrival t, .haltArrival t, .injectIntentArrival t, .isoResultArrival t,
      .logReadArrival t, .logRecordArrival t, .flagClearArrival t]) :
    ∃ k pass, exec c s = .next (s.arrive k t pass) := by
  simp only [List.mem_cons, List.not_mem_nil, or_false] at hc
  obtain rfl | rfl | rfl | rfl | rfl | rfl | rfl | rfl := hc <;> exact ⟨_, _, rfl⟩

/-- A telegram that the receiver has not taken up, or that is on the bus with an attempt, is not heard. -/
theorem takesUp_iff (s : State) (h : s.mdu.mode.runs = true) : s.takesUp = true ↔ s.Hears := by
  have hidle : s.busIdle = true ↔ 80 ≤ s.pbi.quiet := decide_eq_true_iff
  simp [State.takesUp, State.Hears, h, hidle]

/-- Settles O28: a telegram that ends and one that restarts the quiet time change the bus alone. -/
theorem discardedWithoutTrace : Obligations.DiscardedWithoutTrace := by
  refine ⟨fun t c s h => ?_, fun s hruns => ⟨fun hatt hq => ?_, fun hatt => ?_⟩, fun t c s hruns hears hc => ?_⟩
  · obtain ⟨hh, hnone, hc⟩ | ⟨hruns, rfl, hatt, hq⟩ := h
    · obtain ⟨k, pass, e⟩ := arrival_arrives s hc
      have hruns : s.runs = true := hh.1
      have hreceive : s.receive k t pass = s.telegramEnds := by
        simp [State.receive, hruns, takesUp_of_hears hh, State.completeTelegram, hnone]
      rw [e, State.arrive, hreceive]
      exact congrArg Host.Outcome.next (dormantTest_bus s _)
    · have hnow : s.idleNow = false := by simp [State.idleNow, idleTime]; omega
      have hruns' : s.runs = true := hruns
      simp [exec, execTelegramDiscarded, State.discard, hruns', hatt, hnow, State.telegramEnds, State.takeUpEnds]
  · have hnow : s.idleNow = true := by simp [State.idleNow, idleTime]; omega
    have hruns' : s.runs = true := hruns
    simp [exec, execTelegramDiscarded, State.discard, hruns', hatt, hnow, State.takeUpEnds]
  · simp [exec, execTelegramDiscarded, hatt]
  · obtain ⟨k, pass, e⟩ := arrival_arrives s hc
    have hruns' : s.runs = true := hruns
    have hno : s.takesUp = false := by rw [← Bool.not_eq_true, takesUp_iff s hruns]; exact hears
    have hreceive : s.receive k t pass = { s with pbi.quiet := 0 } := by simp [State.receive, hruns', hno]
    rw [e, State.arrive, hreceive]
    exact congrArg Host.Outcome.next (dormantTest_bus s _)

end Sys2Proof.Machine
end

section
/-! PROOF. What a peer's telegram does at the record and in the view (O30, O32 to O34, O36, O38). -/

namespace Sys2Proof.Machine

/-! ## A telegram passed on (R36, R40) -/

/-- A telegram that the station hears from a peer is passed on, with the DORMANT entry test after it. -/
theorem arrive_heard {s : State} {rx : Received} {t : List Byte} (pass : Received → State → State) (hh : s.Hears)
    (hc : checkTelegram t = some rx) (hs : rx.source ≠ s.mdu.station) :
    s.arrive rx.kind t pass = State.dormantTest s (pass rx (s.passedOn rx)) := by
  rw [State.arrive, receive_of_hears pass hh hc hs]
  rfl

@[simp] theorem State.passedOn_bus (s : State) (rx : Received) :
    (s.passedOn rx).pbi = { s.pbi with quiet := 0, foreign := false, receiving := false } ∧
    (s.passedOn rx).pins = s.pins ∧ (s.passedOn rx).emt = s.emt ∧
    (s.passedOn rx).pvt.lossTimer = s.pvt.lossTimer ∧ (s.passedOn rx).pvt.halted = s.pvt.halted := by
  simp [State.passedOn, State.settleEntry, State.telegramEnds, State.takeUpEnds]

/-- The sender's entry as a telegram settles it (R36, R37). -/
def State.senderEntry (rx : Received) (s : State) : Entry :=
  { id := rx.source, role := rx.kind.role, age := 0,
    part := partAfter (entryOf s.pvt.view rx.source) rx.kind rx.payload }

theorem passedOn_view (s : State) (rx : Received) :
    (s.passedOn rx).pvt.view = putEntry (s.senderEntry rx) s.pvt.view := by
  simp [State.passedOn, State.settleEntry, State.senderEntry]

theorem passedOn_record (s : State) (rx : Received) :
    (s.passedOn rx).pvt.record =
      s.pvt.record.map (Contract.resolve s.pvt.view (putEntry (s.senderEntry rx) s.pvt.view)) := by
  simp [State.passedOn, State.settleEntry, State.senderEntry]

/-- A telegram of an inlet station ends no conflict (R48). -/
theorem passedOn_record_inlet {s : State} {rx : Received} (hk : rx.kind.role = .inlet) :
    (s.passedOn rx).pvt.record = s.pvt.record := by
  have hresolve : Contract.resolve s.pvt.view (putEntry (s.senderEntry rx) s.pvt.view) = id :=
    funext fun r => resolve_putEntry (by simpa [State.senderEntry] using hk) _ r
  rw [passedOn_record, hresolve, Option.map_id, id]

theorem passedOn_mdu {s : State} {rx : Received} (hk : rx.kind.wakeful = false) : (s.passedOn rx).mdu = s.mdu := by
  simp [State.passedOn, heard_mdu, hk]

/-- A telegram of a kind that restarts no dormant timer leaves the conditions of the entry into DORMANT (R173). -/
theorem dormantTest_unwakeful {s t : State} {rx : Received} (hk : rx.kind.wakeful = false)
    (hmdu : t.mdu = (s.passedOn rx).mdu) (hslu : t.slu = s.slu) (hseq : t.imon.seq = s.imon.seq)
    (hpins : t.pins = s.pins) : State.dormantTest s t = t := by
  refine dormantTest_same ?_
  simp [State.dormantReady, hmdu, passedOn_mdu hk, hslu, hseq, hpins]

/-! ## The end of a conflict (R48) -/

/-- Settles O34, by the definition of a change of the view. -/
theorem conflictEnds : Obligations.ConflictEnds := by
  intro view r s hr
  refine ⟨fun x hx hlost => ?_, fun hkept => ?_⟩
  · have hresolve : r.resolve s.pvt.view view = { r with status := .resolving } := by
      obtain ⟨h1, h2⟩ | ⟨h1, h2⟩ := hlost <;> simp [Contract.resolve, hx, inletLost, h1, h2]
    simp [State.setView, hr, hresolve]
  · have hresolve : r.resolve s.pvt.view view = r := by
      unfold Contract.resolve
      split
      · next x hx =>
        obtain ⟨h1, h2⟩ := hkept x hx
        have hlost : ∀ id, (showsInlet s.pvt.view id = true → showsInlet view id = true) →
            inletLost s.pvt.view view id = false := by
          intro id h
          cases ha : showsInlet s.pvt.view id
          · simp [inletLost, ha]
          · simp [inletLost, h ha]
        simp [hlost _ h1, hlost _ h2]
      · rfl
    simp [State.setView, hr, hresolve]

/-- A MODULE entry put into the view takes the INLET role of its own station alone (R48). -/
theorem inletLost_putEntry_module {e : Entry} (h : e.role ≠ .inlet) (view : List Entry) (id : Nat) :
    inletLost view (putEntry e view) id = (decide (id = e.id) && showsInlet view id) := by
  by_cases hid : id = e.id
  · simp [inletLost, showsInlet, hid, entryOf_putEntry_same, h]
  · simp [inletLost, showsInlet, hid, entryOf_putEntry_other hid]

/-! ## Contracts turned away (R47, R49) -/

/-- A CONTRACT that the station hears: the record judges it, and the dormant timer that it restarts in RUN makes no
entry into DORMANT (R43, R172). -/
theorem exec_contractArrival {s : State} {source : Nat} {t p : List Byte} (hh : s.Hears) (hs : source ≠ s.mdu.station)
    (hc : checkTelegram t = some { source := source, kind := .contract, payload := p }) :
    exec (.contractArrival t) s =
      .next ((s.passedOn { source := source, kind := .contract, payload := p }).contractArrives source p) := by
  have harrive := arrive_heard State.peerContract hh hc hs
  refine congrArg Host.Outcome.next (harrive.trans ?_)
  exact dormantTest_passedOn (s := s) (rx := { source := source, kind := .contract, payload := p }) rfl
    (by simp [State.peerContract])

/-- In a conflict the own-phase limit is 0, so that nothing is claimed (R44, R75). -/
theorem recompute_claim_of_limit {s : State} (h : s.ownLimit = 0) : s.recompute.she.claim = 0 := by
  obtain ⟨-, -, hp⟩ := computedClaim_le s s.pvt.view
  rw [recompute_claim]
  omega

/-- No move takes a flag out of the latched ones (R155). -/
theorem Move.keepsFlag {f : Flag} {s t : State} (h : Move s t) (hs : s.latched f = true) : t.latched f = true := by
  have hcongr : ∀ {u : State}, u.flu = s.flu → u.latched f = true := fun hu => by rw [State.latched, hu]; exact hs
  cases h with
  | quiet h => exact hcongr h.flu
  | recompute h => exact hcongr (by simp [h.flu])
  | raise h g => rw [raiseFlag_latched, hcongr h.flu, Bool.true_or]
  | isoFault =>
    obtain ⟨u, e, rfl | rfl | rfl⟩ := isoFaultDeparts_cases s <;>
      simp only [e, State.latched, State.sessionDeparts_rest, State.openingTest_rest, State.faultEntered_rest]
    · exact hs
    · exact (raiseFlag_latched s.faultEntered .isoFault f).trans (by rw [hcongr (by simp), Bool.true_or])
    · exact (raiseFlag_latched s.faultEntered .isoFault f).trans (by rw [hcongr (by simp), Bool.true_or])
  | _ => exact hcongr (by simp)

/-- After a latch request the flag is latched (R155). -/
theorem latch_latched (s : State) (f : Flag) : (s.latch f).latched f = true := by
  cases h : s.latched f
  · rw [latch_new h]
    have hraise : ((s.raiseFlag f).monitorLatch f).latched f = true := by
      have hsame : ((s.raiseFlag f).monitorLatch f).latched f = (s.raiseFlag f).latched f := by
        simp only [State.latched, State.monitorLatch_rest]
      simp [hsame, raiseFlag_latched]
    exact (moves_sessionLatch _ f).keeps Move.keepsFlag hraise
  · rw [latch_again h, h]

/-- The latch of CONTRACT_CONFLICT at the record: the flag is latched and the claim follows (R47, R81). -/
theorem enterConflict_spec (s : State) (r : Contract) (contender : Nat) :
    (s.enterConflict r contender).latched .contractConflict = true ∧
    (s.enterConflict r contender).she.claim = 0 ∧
    (s.enterConflict r contender).pvt =
      { s.pvt with record := some { r with status := .conflicted contender }, lossTimer := some lossTime } ∧
    (s.enterConflict r contender).store = s.store := by
  have hstore : ∀ u : State, (u.latch .contractConflict).store = u.store := by
    intro u
    obtain e | e | e := latch_cases (f := .contractConflict) (.inl rfl) (by decide) u <;> simp [e]
  refine ⟨?_, recompute_claim_of_limit ?_, by simp [State.enterConflict], by simp [State.enterConflict, hstore]⟩
  · have := latch_latched { s with
      pvt.record := some { r with status := .conflicted contender }
      pvt.lossTimer := some lossTime } .contractConflict
    simpa [State.enterConflict, State.latched] using this
  · simp [State.ownLimit]

/-- Settles O33: a repeat and a CONTRACT in a conflict restart the loss timer, and a second inlet begins a conflict. -/
theorem contractTurnedAway : Obligations.ContractTurnedAway := by
  refine ⟨fun t p source r s hh hs hc hr hcase => ?_, fun t p source r s hh hs hc hr hst hne hinlet => ?_⟩
  · have hrec : (s.passedOn { source := source, kind := .contract, payload := p }).pvt.record = some r := by
      rw [passedOn_record_inlet rfl, hr]
    have hloss : (s.passedOn { source := source, kind := .contract, payload := p }).contractArrives source p =
        (s.passedOn { source := source, kind := .contract, payload := p }).restartLoss := by
      obtain ⟨hst, hsrc, hseq⟩ | ⟨x, hst⟩ := hcase
      · simp [State.contractArrives, hrec, hst, hsrc, hseq]
      · simp [State.contractArrives, hrec, hst]
    refine ⟨_, exec_contractArrival hh hs hc, ?_⟩
    rw [hloss]
    exact ⟨rfl, hrec, by simp [State.restartLoss]⟩
  · generalize hrx : ({ source := source, kind := .contract, payload := p } : Received) = rx
    have hrec : (s.passedOn rx).pvt.record = some r := by
      rw [passedOn_record_inlet (by rw [← hrx]; rfl), hr]
    have hstill : showsInlet (s.passedOn rx).pvt.view r.source = true := by
      rw [passedOn_view, showsInlet, entryOf_putEntry_other (by simpa [State.senderEntry, ← hrx] using hne)]
      exact hinlet
    have hconf : (s.passedOn rx).contractArrives source p = (s.passedOn rx).enterConflict r source := by
      simp [State.contractArrives, hrec, hst, Ne.symm hne, hstill]
    have hexec := exec_contractArrival hh hs hc
    rw [hrx, hconf] at hexec
    obtain ⟨hflag, hclaim, hpvt, hstore⟩ := enterConflict_spec (s.passedOn rx) r source
    refine ⟨_, hexec, congrArg PeerView.record hpvt, congrArg PeerView.lossTimer hpvt, hflag, hclaim, ?_, ?_, ?_, ?_⟩
    · exact (congrArg PeerView.halted hpvt).trans (State.passedOn_bus s rx).2.2.2.2
    · simp
    · simp [hstore]
    · simp [← hrx]

/-! ## The window list (R45) -/

theorem windowsFrom_eq (p : List Byte) (n j : Nat) :
    windowsFrom p n j =
      (List.range n).map fun i => { start := rd16 p (19 + 3 * (j + i)), cls := rd8 p (21 + 3 * (j + i)) } := by
  induction n generalizing j with
  | zero => rfl
  | succ n ih =>
    rw [windowsFrom, ih, List.range_succ_eq_map, List.map_cons, List.map_map]
    refine congrArg _ (List.map_congr_left fun i _ => ?_)
    rw [Function.comp_apply, show j + 1 + i = j + Nat.succ i by omega]

theorem ascendingStarts_iff (ws : List Window) :
    ascendingStarts ws = true ↔ ∀ j, (h : j + 1 < ws.length) → ws[j].start < ws[j + 1].start := by
  induction ws with
  | nil => simp [ascendingStarts]
  | cons a rest ih =>
    cases rest with
    | nil => simp [ascendingStarts]
    | cons b rest =>
      rw [ascendingStarts, Bool.and_eq_true, ih, decide_eq_true_eq]
      constructor
      · rintro ⟨hab, hrest⟩ j hj
        cases j with
        | zero => exact hab
        | succ j => exact hrest j (by simpa using hj)
      · exact fun h => ⟨h 0 (by simp), fun j hj => h (j + 1) (by simpa using hj)⟩

theorem windowsFrom_length (p : List Byte) (n : Nat) : (windowsFrom p n 0).length = n := by
  simp [windowsFrom_eq]

theorem windowsFrom_getElem (p : List Byte) {n j : Nat} (h : j < (windowsFrom p n 0).length) :
    (windowsFrom p n 0)[j] = { start := rd16 p (19 + 3 * j), cls := rd8 p (21 + 3 * j) } := by
  simp [windowsFrom_eq]

/-- The test of each window is a test of each place in the payload (R45). -/
theorem windowsFrom_all_iff (p : List Byte) (n : Nat) :
    ((windowsFrom p n 0).all fun w => w.start ≤ 1439 && w.cls ≤ 3) = true ↔
      ∀ j < n, rd16 p (19 + 3 * j) ≤ 1439 ∧ rd8 p (21 + 3 * j) ≤ 3 := by
  simp [windowsFrom_eq]

/-- The starts of the list ascend when those of the places do (R45). -/
theorem windowsFrom_ascending_iff (p : List Byte) (n : Nat) :
    ascendingStarts (windowsFrom p n 0) = true ↔
      ∀ j, j + 1 < n → rd16 p (19 + 3 * j) < rd16 p (22 + 3 * j) := by
  rw [ascendingStarts_iff]
  simp only [windowsFrom_getElem, windowsFrom_length]
  refine forall_congr' fun j => ?_
  rw [show 19 + 3 * (j + 1) = 22 + 3 * j by omega]

/-- Settles O32: the tests on the list are the tests on its places in the payload. -/
theorem Payload.contractWindows : Obligations.ContractWindows := by
  intro p
  have htests := and_congr (windowsFrom_all_iff p (rd8 p 18)) (windowsFrom_ascending_iff p (rd8 p 18))
  refine ⟨fun h => ?_, fun h => if_neg ?_⟩
  · rw [Machine.contractWindows, if_pos (by rwa [htests]), windowsFrom_eq]
    simp
  · rwa [htests]

end Sys2Proof.Machine
end

section
/-! PROOF. Entries settled, intents and log reads of peers (O30, O36, O38). -/

namespace Sys2Proof.Machine

/-! ## Entries settled (O30) -/

/-- A telegram of a module station makes a conflict RESOLVING when the view showed its sender as an INLET that
takes part in it (R36, R48). -/
theorem resolve_putEntry_module {e : Entry} (h : e.role ≠ .inlet) (view : List Entry) (r : Contract) :
    (r.Between e.id ∧ showsInlet view e.id = true →
      r.resolve view (putEntry e view) = { r with status := .resolving }) ∧
    (¬ (r.Between e.id ∧ showsInlet view e.id = true) → r.resolve view (putEntry e view) = r) := by
  unfold Contract.resolve
  cases hst : r.status with
  | conflicted x =>
    simp only [inletLost_putEntry_module h]
    constructor
    · rintro ⟨⟨y, hy, hin⟩, hinlet⟩
      have hxy : x = y := by simpa [hst] using hy
      subst hxy
      obtain hid | hid := hin <;> simp [hid, hinlet]
    · intro hnot
      refine if_neg fun hlost => hnot ?_
      simp only [Bool.or_eq_true, Bool.and_eq_true, decide_eq_true_eq] at hlost
      obtain ⟨hid, hin⟩ | ⟨hid, hin⟩ := hlost
      · exact ⟨⟨x, hst, .inl hid⟩, hid ▸ hin⟩
      · exact ⟨⟨x, hst, .inr hid⟩, hid ▸ hin⟩
  | _ =>
    refine ⟨?_, fun _ => rfl⟩
    rintro ⟨⟨y, hy, -⟩, -⟩
    simp [hst] at hy

/-- A telegram heard touches the dormant timer alone (R172). -/
theorem heard_eq (s : State) (k : Kind) :
    s.heard k = { s with
      mdu.dormantTimer := if k.wakeful ∧ s.mdu.mode = .run then .running s.dormantTime else s.mdu.dormantTimer } := by
  unfold State.heard
  split <;> rfl

/-- A telegram passed on touches the bus, the view, the record and the dormant timer alone (R36, R172). -/
theorem passedOn_eq (s : State) (rx : Received) :
    s.passedOn rx = { s with
      pbi.quiet := 0, pbi.foreign := false, pbi.receiving := false, pvt.view := (s.passedOn rx).pvt.view,
      pvt.record := (s.passedOn rx).pvt.record,
      mdu.dormantTimer := if rx.kind.wakeful ∧ s.mdu.mode = .run then .running s.dormantTime
        else s.mdu.dormantTimer } := by
  simp [State.passedOn, heard_eq, State.settleEntry, State.setView, State.telegramEnds, State.takeUpEnds,
    State.dormantTime]

/-- A BEACON whose injecting flag is no, and a LOG_RECORD, are handed to no block (R40). -/
theorem exec_moduleArrival {telegram : List Byte} {rx : Received} {c : Instr} {s : State} (hh : s.Hears)
    (hs : rx.source ≠ s.mdu.station) (hc : checkTelegram telegram = some rx)
    (hcase : rx.kind = .beacon ∧ c = .beaconArrival telegram ∧ (rx.payload.getD 9 0).getLsbD 1 = false ∨
      rx.kind = .logRecord ∧ c = .logRecordArrival telegram) :
    exec c s = .next (s.passedOn rx) := by
  obtain ⟨hk, rfl, hflag⟩ | ⟨hk, rfl⟩ := hcase
  · have harrive := arrive_heard State.peerBeacon hh hc hs
    have hpass : (s.passedOn rx).peerBeacon rx = s.passedOn rx := if_neg (by rw [beaconPart, hflag]; simp)
    have hwake : rx.kind.wakeful = false := by rw [hk]; rfl
    rw [hpass, dormantTest_unwakeful hwake rfl (by simp) (by simp) (by simp), hk] at harrive
    exact congrArg Host.Outcome.next harrive
  · have harrive := arrive_heard State.peerLogRecord hh hc hs
    rw [State.peerLogRecord, dormantTest_passedOn (by rw [hk]; rfl) rfl, hk] at harrive
    exact congrArg Host.Outcome.next harrive

/-- Settles O30: both kinds settle the sender's entry as a MODULE and go no further. -/
theorem peerEntrySettled : Obligations.PeerEntrySettled := by
  intro telegram payload source kind c s hh hs hc hcase
  generalize hrx : ({ source := source, kind := kind, payload := payload } : Received) = rx at hc
  have hsource : rx.source = source := by rw [← hrx]
  have hkind : rx.kind = kind := by rw [← hrx]
  have hpayload : rx.payload = payload := by rw [← hrx]
  have hrole : (s.senderEntry rx).role = .module := by
    obtain ⟨rfl, -⟩ | ⟨rfl, -⟩ := hcase <;> rw [State.senderEntry, hkind] <;> rfl
  have hwake : rx.kind.wakeful = true ↔ kind = .logRecord := by
    obtain ⟨rfl, -⟩ | ⟨rfl, -⟩ := hcase <;> simp [hkind, Kind.wakeful]
  have hresolve := resolve_putEntry_module (e := s.senderEntry rx) (by simp [hrole]) s.pvt.view
  have hid : (s.senderEntry rx).id = source := hsource
  rw [hid] at hresolve
  refine ⟨s.passedOn rx, exec_moduleArrival hh (hsource ▸ hs) hc (by rw [hkind, hpayload]; exact hcase), ?_, ?_, ?_, ?_,
    ?_⟩
  · simpa only [hwake, State.dormantTime] using passedOn_eq s rx
  · intro hrec
    rw [passedOn_record, hrec, Option.map_none]
  · intro r hrec
    obtain ⟨hends, hstays⟩ := hresolve r
    rw [passedOn_record, hrec, Option.map_some]
    exact ⟨fun h => congrArg some (hends h), fun h => congrArg some (hstays h)⟩
  · intro id hne
    rw [passedOn_view]
    exact entryOf_putEntry_other (by rwa [hid]) _
  · have hsame := entryOf_putEntry_same (s.senderEntry rx) s.pvt.view
    rw [passedOn_view]
    rw [hid] at hsame
    refine hsame.trans (congrArg some ?_)
    rw [State.senderEntry, hkind, hsource, hpayload]
    obtain ⟨rfl, -, hflag⟩ | ⟨rfl, -⟩ := hcase
    · rw [partAfter, beaconPart, hflag]
      rfl
    · rw [entryOf]
      cases s.pvt.view.find? (fun e => e.id == source) <;> rfl

/-! ## A peer's claim to the bus (O36) -/

/-- Standing back takes the sequencer to HOLDOFF or leaves everything (R102, R103, R107). -/
theorem standBack_dormantTest {before t u : State} (hbefore : t.standBack = u)
    (hstay : State.dormantTest before t = t) :
    State.dormantTest before u = u := by
  subst hbefore
  obtain ⟨-, e⟩ | ⟨-, -, e⟩ | ⟨-, -, -, e⟩ | e := standBack_cases t
  · rw [e]; exact dormantTest_of_holdoff rfl
  · rw [e]; exact dormantTest_of_holdoff rfl
  · rw [e]; exact dormantTest_of_holdoff (abortMeasurement_seq t)
  · rwa [e]

/-- A peer's claim to the bus heard: an intent restarts the peer intent timer (R97). -/
def State.claimHeard (rx : Received) (s : State) : State :=
  { s.passedOn rx with imon.peerIntent := if rx.kind = .injectIntent then some windowTime else s.imon.peerIntent }

@[simp] theorem State.claimHeard_rest (s : State) (rx : Received) :
    (s.claimHeard rx).mdu = (s.passedOn rx).mdu ∧ (s.claimHeard rx).she = s.she ∧
    (s.claimHeard rx).imon.seq = s.imon.seq ∧ (s.claimHeard rx).emt = s.emt ∧ (s.claimHeard rx).slu = s.slu ∧
    (s.claimHeard rx).flu = s.flu ∧ (s.claimHeard rx).clock = s.clock ∧ (s.claimHeard rx).store = s.store ∧
    (s.claimHeard rx).pins = s.pins ∧ (s.claimHeard rx).pbi.intent = s.pbi.intent ∧
    (s.claimHeard rx).pbi.result = s.pbi.result ∧ (s.claimHeard rx).pbi.random = s.pbi.random ∧
    (s.claimHeard rx).pbi.attempt = s.pbi.attempt := by
  simp [State.claimHeard]

/-- A peer's intent, and a peer's BEACON whose injecting flag is yes, stand back what is under way (R102, R103). -/
theorem exec_intentArrival {telegram : List Byte} {rx : Received} {c : Instr} {s : State} (hh : s.Hears)
    (hs : rx.source ≠ s.mdu.station) (hc : checkTelegram telegram = some rx)
    (hcase : rx.kind = .injectIntent ∧ c = .injectIntentArrival telegram ∨
      rx.kind = .beacon ∧ c = .beaconArrival telegram ∧ (rx.payload.getD 9 0).getLsbD 1 = true) :
    exec c s = .next (s.claimHeard rx).standBack := by
  have hwake : rx.kind.wakeful = false := by obtain ⟨hk, -⟩ | ⟨hk, -⟩ := hcase <;> rw [hk] <;> rfl
  have hstay : State.dormantTest s (s.claimHeard rx).standBack = (s.claimHeard rx).standBack :=
    standBack_dormantTest rfl (dormantTest_unwakeful hwake (by simp) (by simp) (by simp) (by simp))
  obtain ⟨hk, rfl⟩ | ⟨hk, rfl, hflag⟩ := hcase
  · have harrive := arrive_heard State.peerIntentHeard hh hc hs
    have hpass : (s.passedOn rx).peerIntentHeard rx = (s.claimHeard rx).standBack := by
      rw [State.peerIntentHeard, State.claimHeard, if_pos hk]
    rw [hpass, hstay, hk] at harrive
    exact congrArg Host.Outcome.next harrive
  · have harrive := arrive_heard State.peerBeacon hh hc hs
    have hpass : (s.passedOn rx).peerBeacon rx = (s.claimHeard rx).standBack := by
      rw [State.claimHeard, if_neg (by rw [hk]; decide),
        show s.imon.peerIntent = (s.passedOn rx).imon.peerIntent by simp]
      exact if_pos hflag
    rw [hpass, hstay, hk] at harrive
    exact congrArg Host.Outcome.next harrive

/-- What standing back leaves in the sequencer and the slots, with no attempt under way (R102, R103, R107). -/
theorem standBack_spec {s : State} (hatt : s.pbi.attempt = none) :
    s.standBack.imon.peerIntent = s.imon.peerIntent ∧
    (match s.imon.seq with
     | .pending => (∃ left, s.standBack.imon.seq = .holdoff left) ∧ s.standBack.pbi.intent = none ∧
         s.standBack.pbi.result = s.pbi.result
     | .window _ => (∃ left, s.standBack.imon.seq = .holdoff left) ∧ s.standBack.pbi.result = s.pbi.result
     | .injecting _ _ =>
       (∃ left, s.standBack.imon.seq = .holdoff left) ∧ s.standBack.imon.isoSw = .opened ∧
       ∃ x, s.standBack.pbi.result = some x ∧ x.failed = 0 ∧ x.payload.getD 1 0 = 2
     | q => s.standBack.imon.seq = q ∧ s.standBack.pbi.random = s.pbi.random ∧
         s.standBack.pbi.intent = s.pbi.intent) := by
  have hfree : ∀ k, s.pbi.attempting k = false := fun k => by simp [PeerBus.attempting, hatt]
  unfold State.standBack
  cases hseq : s.imon.seq with
  | pending => simp [State.withdrawIntent, hfree, State.enterHoldoff, State.draw, State.setSeq]
  | window left => simp [State.enterHoldoff, State.draw, State.setSeq]
  | injecting p k =>
    refine ⟨?_, ⟨_, abortMeasurement_seq s⟩, rfl, ?_⟩ <;>
      simp [State.abortMeasurement, State.loadOwnResult, loadResult_eq, State.clearSums, hfree, State.enterHoldoff,
        State.draw, State.setSeq, TxSlot.fresh, resultPayload, ResultKind.code, lowByte]
  | _ => simp [hseq]

/-- Settles O36: the telegram goes to the sequencer, which stands back. -/
theorem peerIntentArrives : Obligations.PeerIntentArrives := by
  intro telegram p source kind c s hh hs hc hcase hatt
  have hexec := exec_intentArrival hh hs hc hcase
  have hwake : kind.wakeful = false := by obtain ⟨rfl, -⟩ | ⟨rfl, -⟩ := hcase <;> rfl
  generalize hrx : ({ source := source, kind := kind, payload := p } : Received) = rx at hexec
  have hkind : rx.kind = kind := by rw [← hrx]
  have hmdu := passedOn_mdu (s := s) (rx := rx) (by rwa [hkind])
  obtain ⟨hpeer, hseq⟩ := standBack_spec (s := s.claimHeard rx) (by simpa using hatt)
  refine ⟨_, hexec, ?_, ?_, by simp [hmdu]⟩
  · rw [hpeer, State.claimHeard, hkind]
    rfl
  · cases hq : s.imon.seq <;> simpa only [hq, State.claimHeard_rest] using hseq

/-! ## Log reads (O38) -/

theorem mem_allSlots (slot : Fin 16) : slot ∈ allSlots := by revert slot; decide

/-- A table of 16 places holds a sequence exactly when one of its slots does (R149). -/
theorem mem_heldSequences {table : List (Option Nat)} (hlen : table.length = 16) {n : Nat} :
    n ∈ heldSequences table ↔ ∃ slot : Fin 16, slotEntry table slot = some n := by
  have hmem : n ∈ heldSequences table ↔ some n ∈ table := by simp [heldSequences]
  simp only [hmem, List.mem_iff_getElem, slotEntry, List.getD_eq_getElem?_getD]
  constructor
  · rintro ⟨i, hi, h⟩
    exact ⟨⟨i, hlen ▸ hi⟩, by simp [hi, h]⟩
  · rintro ⟨slot, h⟩
    have hi : slot.val < table.length := by omega
    exact ⟨slot.val, hi, by simpa [hi] using h⟩

/-- The slot of the greatest sequence is the one NEWEST asks for (R153). -/
theorem slotOf_newestSeq {table : List (Option Nat)} (hlen : table.length = 16) {slot : Fin 16} {n : Nat}
    (hslot : slotEntry table slot = some n) (hmax : ∀ k m, slotEntry table k = some m → k ≠ slot → m < n) :
    newestSeq table = n ∧ slotOf table n = some slot := by
  have hmem : n ∈ heldSequences table := (mem_heldSequences hlen).2 ⟨slot, hslot⟩
  have hle : ∀ m ∈ heldSequences table, m ≤ n := by
    intro m hm
    obtain ⟨k, hk⟩ := (mem_heldSequences hlen).1 hm
    by_cases hks : k = slot
    · rw [hks, hslot] at hk
      exact (Option.some.inj hk).ge
    · exact (hmax k m hk hks).le
  have hnewest : newestSeq table = n := by
    have hge := le_newestSeq hmem
    obtain h0 | hin := newestSeq_mem table
    · omega
    · exact le_antisymm (hle _ hin) hge
  refine ⟨hnewest, ?_⟩
  cases hfind : slotOf table n with
  | none =>
    rw [slotOf, List.find?_eq_none] at hfind
    exact absurd (hfind slot (mem_allSlots slot)) (by simp [hslot])
  | some k =>
    have hk : slotEntry table k = some n := by simpa using List.find?_some hfind
    by_cases hks : k = slot
    · rw [hks]
    · exact absurd (hmax k n hk hks) (by omega)

/-- A LOG_READ that the station hears makes no entry into DORMANT, as it restarts the timer in RUN (R172). -/
theorem exec_logReadArrival {telegram : List Byte} {rx : Received} {s : State} (hh : s.Hears)
    (hs : rx.source ≠ s.mdu.station) (hc : checkTelegram telegram = some rx) (hk : rx.kind = .logRead) :
    exec (.logReadArrival telegram) s = .next ((s.passedOn rx).peerLogRead rx) := by
  have harrive := arrive_heard State.peerLogRead hh hc hs
  have hmdu : ((s.passedOn rx).peerLogRead rx).mdu = (s.passedOn rx).mdu := by
    unfold State.peerLogRead State.loadReply
    split <;> rfl
  rw [dormantTest_passedOn (by rw [hk]; rfl) hmdu, hk] at harrive
  exact congrArg Host.Outcome.next harrive

/-- What a LOG_READ for the own id loads (R153, R154). -/
theorem peerLogRead_eq (s : State) (rx : Received) :
    s.peerLogRead rx = { s with
      pbi.logReply := if rd8 rx.payload 0 = s.mdu.station ∧ s.pbi.logReply = none then
        some { payload := logReplyPayload (s.replyStatus rx.payload) s.slu.table, failed := 0 }
      else s.pbi.logReply } := by
  unfold State.peerLogRead
  split <;> rfl

/-- A reply that bears a record: its status byte, the two sequences and the slot's 47 bytes (section 11.2.7). -/
theorem logReplyPayload_slotRecord (s : State) (slot : Fin 16) (table : List (Option Nat)) :
    logReplyPayload (.record (s.slotRecord slot)) table =
      (0 : Byte) :: (be32 (oldestSeq table) ++ be32 (newestSeq table) ++ readBytes s.store (48 * slot.val) 47) := by
  rw [logReplyPayload, State.slotRecord, slotAddr, Nat.mul_comm]
  rfl

theorem sequenceStatus_held {s : State} {n : Nat} {slot : Fin 16} (h : slotOf s.slu.table n = some slot) :
    s.sequenceStatus n = .record (s.slotRecord slot) := by rw [State.sequenceStatus, h]

theorem sequenceStatus_notHeld {s : State} {n : Nat} (h : slotOf s.slu.table n = none) :
    s.sequenceStatus n =
      if (s.slu.buffer.map fun b => b.record.seq) = some n then .pendingWrite else .notHeld := by
  cases hb : s.slu.buffer <;> simp [State.sequenceStatus, h, hb]

theorem newestStatus_empty {s : State} (h : heldSequences s.slu.table = []) : s.newestStatus = .notHeld := by
  rw [State.newestStatus, h]

theorem newestStatus_held {s : State} {n : Nat} {slot : Fin 16} (hmem : n ∈ heldSequences s.slu.table)
    (hnewest : newestSeq s.slu.table = n) (hslot : slotOf s.slu.table n = some slot) :
    s.newestStatus = .record (s.slotRecord slot) := by
  unfold State.newestStatus
  split
  · next h => simp [h] at hmem
  · rw [hnewest, hslot]

/-- The reply status is read of the log alone (R153). -/
theorem replyStatus_passedOn (s : State) (rx : Received) (p : List Byte) :
    (s.passedOn rx).replyStatus p = s.replyStatus p := by
  simp [State.replyStatus, State.newestStatus, State.sequenceStatus, State.slotRecord]

/-- Settles O38: the reply bears the status of the request, read of the slot table and the closing buffer. -/
theorem logReadAnswered : Obligations.LogReadAnswered := by
  intro telegram p source s hh hs hc
  generalize hrx : ({ source := source, kind := .logRead, payload := p } : Received) = rx at hc
  have hpayload : rx.payload = p := by rw [← hrx]
  have hreply : ((s.passedOn rx).peerLogRead rx).pbi.logReply =
      if rd8 p 0 = s.mdu.station ∧ s.pbi.logReply = none then
        some { payload := logReplyPayload (s.replyStatus p) s.slu.table, failed := 0 }
      else s.pbi.logReply := by
    simp [peerLogRead_eq, replyStatus_passedOn, hpayload]
  have hloads : rd8 p 0 = s.mdu.station → s.pbi.logReply = none → ∀ status, s.replyStatus p = status →
      ((s.passedOn rx).peerLogRead rx).pbi.logReply =
        some { payload := logReplyPayload status s.slu.table, failed := 0 } := by
    intro ht hf status hst
    rw [hreply, if_pos ⟨ht, hf⟩, hst]
  have hexec := exec_logReadArrival hh (by rwa [← hrx]) hc (by rw [← hrx])
  refine ⟨_, hexec, by simp [peerLogRead_eq], by simp [peerLogRead_eq], by simp [peerLogRead_eq],
    by simp [peerLogRead_eq], by simp [peerLogRead_eq], by simp [peerLogRead_eq], ?_, ?_, ?_, ?_⟩
  · intro hnot
    rw [hreply, if_neg (by tauto)]
  · intro ht hf hform
    have hstatus : s.replyStatus p = s.sequenceStatus (rd32 p 2) := if_neg hform
    refine ⟨fun slot hslot => ?_, fun hslot => ?_⟩
    · rw [hloads ht hf _ (hstatus.trans (sequenceStatus_held hslot)), logReplyPayload_slotRecord]
    · rw [hloads ht hf _ (hstatus.trans (sequenceStatus_notHeld hslot))]
      split <;> rfl
  · intro ht hf hform hempty
    rw [hloads ht hf _ ((if_pos hform).trans (newestStatus_empty hempty))]
    simp [logReplyPayload, oldestSeq, newestSeq, hempty, be32, lowByte]
  · intro ht hf hform hlen slot n hslot hmax
    obtain ⟨hnewest, hfind⟩ := slotOf_newestSeq hlen hslot hmax
    have hmem : n ∈ heldSequences s.slu.table := (mem_heldSequences hlen).2 ⟨slot, hslot⟩
    rw [hloads ht hf _ ((if_pos hform).trans (newestStatus_held hmem hnewest hfind)), logReplyPayload_slotRecord,
        hnewest]

end Sys2Proof.Machine
end

section
/-! PROOF. PWR_FAIL and the end of START (O2, O3, O5, O49, O50). -/

namespace Sys2Proof.Machine

/-! ## What the share engine keeps at a recomputation (R81) -/

@[simp] theorem State.recompute_fields (s : State) :
    s.recompute.she.demand = s.she.demand ∧ s.recompute.she.claimTx = s.she.claimTx ∧
    s.recompute.she.overdrawTimer = s.she.overdrawTimer ∧ s.recompute.she.hold = s.she.hold ∧
    s.recompute.she.overdraw = s.she.overdraw ∧ s.recompute.thu.stepTimer = s.thu.stepTimer ∧
    s.recompute.thu.step = s.thu.step ∧ s.recompute.thu.heater = s.thu.heater := by
  obtain ⟨-, e⟩ | ⟨-, e⟩ := recompute_cases s <;> simp [e, State.convert]

@[simp] theorem State.monitorIdle_fields (s : State) :
    s.monitorIdle.she.demand = s.she.demand ∧ s.monitorIdle.she.claimTx = s.she.claimTx ∧
    s.monitorIdle.she.overdrawTimer = s.she.overdrawTimer ∧ s.monitorIdle.she.hold = s.she.hold ∧
    s.monitorIdle.she.overdraw = s.she.overdraw ∧ s.monitorIdle.thu.stepTimer = s.thu.stepTimer := by
  unfold State.monitorIdle
  split <;> simp

@[simp] theorem State.latchLog_fields (s : State) :
    s.latchLog.she.demand = s.she.demand ∧ s.latchLog.she.overdrawTimer = s.she.overdrawTimer ∧
    s.latchLog.she.hold = s.she.hold := by
  unfold State.latchLog State.raiseFlag
  split <;> simp

/-! ## PWR_FAIL in POWER_HOLD (R171, R93, R152) -/

/-- The share engine without demand, overdraw timer and hold (R93). -/
def State.ShareRests (s : State) : Prop :=
  s.she.demand = 0 ∧ s.she.overdrawTimer = none ∧ s.she.hold = false

/-- In POWER_HOLD no session is offered (R137). -/
theorem retest_powerHold {s : State} (h : s.mdu.mode = .powerHold) : s.retest = s := by
  unfold State.retest State.offerSession
  split
  · exact if_neg (by simp [h])
  · rfl

/-- In POWER_HOLD a session that has ended goes to IDLE and stays there (R146). -/
theorem idleAfterEnd_powerHold {s : State} (h : s.mdu.mode = .powerHold) (hs : s.ShareRests) :
    s.idleAfterEnd.ShareRests ∧ s.idleAfterEnd.slu.session = .idle ∧ s.idleAfterEnd.emt.active = false := by
  unfold State.idleAfterEnd
  rw [retest_powerHold (by simpa using h)]
  exact ⟨by simpa [State.ShareRests] using hs, by simp, by simp [State.meterIdles, Meter.start]⟩

theorem moveToBuffer_powerHold {s : State} (h : s.mdu.mode = .powerHold) (hs : s.ShareRests)
    (ho : s.slu.session.isOpen = false) (hp : s.slu.session.isPending = false) (ha : s.emt.active = false) :
    s.moveToBuffer.ShareRests ∧ s.moveToBuffer.slu.session.isOpen = false ∧
    s.moveToBuffer.slu.session.isPending = false ∧ s.moveToBuffer.emt.active = false := by
  have hidle : ∀ u : State, u.mdu.mode = .powerHold → u.ShareRests →
      u.idleAfterEnd.ShareRests ∧ u.idleAfterEnd.slu.session.isOpen = false ∧
      u.idleAfterEnd.slu.session.isPending = false ∧ u.idleAfterEnd.emt.active = false := by
    intro u hm hr
    obtain ⟨hrests, hsession, hactive⟩ := idleAfterEnd_powerHold hm hr
    exact ⟨hrests, by rw [hsession]; rfl, by rw [hsession]; rfl, hactive⟩
  obtain ⟨_, _, _, -, -, ⟨-, e⟩ | ⟨-, e⟩⟩ | e := moveToBuffer_cases s <;> rw [e]
  · exact hidle _ (by simpa using h) (by simpa [State.ShareRests] using hs)
  · exact hidle _ (by simpa using h) (by simpa [State.ShareRests] using hs)
  · exact ⟨hs, ho, hp, ha⟩

/-- What PWR_FAIL leaves of the session, the energy meter and the demand in POWER_HOLD (R152). -/
theorem sessionPowerFail_powerHold {s : State} (h : s.mdu.mode = .powerHold) (hs : s.ShareRests) :
    s.sessionPowerFail.ShareRests ∧ s.sessionPowerFail.slu.session.isOpen = false ∧
    s.sessionPowerFail.slu.session.isPending = false ∧
    s.sessionPowerFail.emt.active = (s.emt.active && !s.slu.session.isOpen) := by
  unfold State.sessionPowerFail
  cases hx : s.slu.session with
  | pending id left =>
    have hpend : s.slu.session.isPending = true := by rw [hx]; rfl
    obtain ⟨-, e⟩ | ⟨hnot, -⟩ := returnToIdle_cases s
    · refine ⟨?_, by simp [returnToIdle_slu hpend, Session.isOpen],
        by simp [returnToIdle_slu hpend, Session.isPending], by simp [Session.isOpen]⟩
      rw [e]
      simpa [State.ShareRests] using hs
    · simp [hpend] at hnot
  | opened r left =>
    simp only [State.endSession, hx]
    obtain ⟨hrests, ho, hp, ha⟩ := moveToBuffer_powerHold
      (s := ({ s with slu.session := .ended r .powerFail s.clock.stamp }.meterDeparts).applyDuty.shareLeavesOpen)
      (by simpa using h) (by simpa [State.ShareRests, State.shareLeavesOpen] using hs.2.1)
      (by simp [Session.isOpen]) (by simp [Session.isPending])
      (by simp [State.shareLeavesOpen, State.meterDeparts, Meter.departed])
    exact ⟨hrests, ho, hp, by simp [ha, Session.isOpen]⟩
  | _ => simp [hx, hs, Session.isOpen, Session.isPending]

/-- Outside RUN nothing heats (R68, R69). -/
theorem heater_outside_run {s : State} (h : s.mdu.mode ≠ .run) (hheat : s.HeaterSafe) :
    s.thu.inForce = 0 ∧ s.thu.htr = false := by
  obtain ⟨hforce, hhtr⟩ := hheat
  have hforce : s.thu.inForce = 0 := by rw [hforce, if_neg (by simp [h])]
  refine ⟨hforce, ?_⟩
  cases hx : s.thu.htr
  · rfl
  · have := hhtr hx
    omega

/-- Outside RUN nothing heats, nothing is drawn and the sequencer is OFF (R68, R74, R96). -/
theorem outputs_outside_run {s : State} (h : s.mdu.mode ≠ .run) (hheat : s.HeaterSafe) (hcharge : s.ChargeSafe)
    (hinj : s.InjectionSafe) :
    s.thu.inForce = 0 ∧ s.thu.htr = false ∧ s.she.claim = 0 ∧ s.she.drawn = 0 ∧ s.she.dutyApplied = 0 ∧
    s.she.idcSet = 0 ∧ s.she.chgEn = false ∧ s.she.iRef = 0 ∧ s.imon.seq = .off ∧ s.imon.isoSw = .opened ∧
    s.imon.injecting = false := by
  obtain ⟨hforce, hhtr⟩ := heater_outside_run h hheat
  obtain ⟨hdrawn, -, hzero, -, -, hquiet, hen, href⟩ := hcharge
  obtain ⟨hsw, hflag, hoff⟩ := hinj
  have hseq : s.imon.seq = .off := hoff (by simp [State.sequencerBarred, h])
  have hclaim : s.she.claim = 0 := hzero (by simp [State.claimBarred, h])
  obtain ⟨hduty, -, hidc⟩ := hquiet (by simp [hdrawn, hclaim])
  exact ⟨hforce, hhtr, hclaim, by simp [hdrawn, hclaim], hduty, hidc, by simp [hen, hidc], by simp [href, hidc], hseq,
    by rw [hsw, hseq]; rfl, by rw [hflag, hseq]; rfl⟩

/-- A PWR_FAIL assertion taken: every output is off and the session is over (R171). -/
theorem takePowerFail_spec (s : State) :
    s.takePowerFail.mdu = { s.mdu with mode := .powerHold, dormantTimer := .stopped } ∧
    s.takePowerFail.ShareRests ∧ s.takePowerFail.HeaterSafe ∧ s.takePowerFail.ChargeSafe ∧
    s.takePowerFail.InjectionSafe ∧ s.takePowerFail.slu.session.isOpen = false ∧
    s.takePowerFail.slu.session.isPending = false ∧
    s.takePowerFail.emt.active = (s.emt.active && !s.slu.session.isOpen) := by
  have hmoves : Moves s.powerHolds s.takePowerFail := moves_sessionPowerFail _
  have hheat : s.powerHolds.HeaterSafe := by simp [State.HeaterSafe]
  have hcharge : s.powerHolds.ChargeSafe :=
    chargeSafe_of_unclaimed (by simpa using shareShutdown_formed s) (by simp)
  obtain ⟨hrests, ho, hp, ha⟩ := sessionPowerFail_powerHold (s := s.powerHolds) (by simp) (by simp [State.ShareRests])
  exact ⟨by simp [State.takePowerFail], hrests, hmoves.keeps Move.heaterSafe hheat,
      hmoves.keeps Move.chargeSafe hcharge,
    hmoves.keeps Move.injectionSafe (sequencerOff_injectionSafe _), ho, hp, ha.trans (by simp)⟩

/-- Settles O50: outside LISTENING and RUN by the definition; there by the invariants that the step keeps. -/
theorem powerFail : Obligations.PowerFail := by
  intro s
  refine ⟨fun h => ?_, fun h => ?_, fun h => ?_, rfl⟩
  · have hexec : exec .pwrFailAssertion s = .next (State.takePowerFail { s with pins.pwrFail := true }) := by
      refine congrArg Host.Outcome.next ?_
      obtain h | h := h <;> simp [State.powerFailByMode, h]
    obtain ⟨hmdu, ⟨hdemand, htimer, hhold⟩, hheat, hcharge, hinj, ho, hp, ha⟩ :=
      takePowerFail_spec { s with pins.pwrFail := true }
    obtain ⟨hforce, hhtr, hclaim, hdrawn, hduty, hidc, hen, href, hseq, hsw, hflag⟩ :=
      outputs_outside_run (by simp [hmdu]) hheat hcharge hinj
    exact ⟨_, hexec, by simp [hmdu], by simp [hmdu], hdemand, hclaim, hdrawn, hduty, hidc, hen, href, htimer, hhold,
      hforce, hhtr, hseq, hsw, hflag, ho, hp, ha, by simp, by simp, by simp⟩
  · refine congrArg Host.Outcome.next ?_
    obtain h | h := h <;> simp [State.powerFailByMode, h]
  · refine congrArg Host.Outcome.next ?_
    obtain h | h := h <;> simp [State.powerFailByMode, h]

/-! ## The entry into LISTENING (R166, R170, R174) -/

/-- A started interface holds no intent to withdraw: the sequencer's end leaves it (R21, R96). -/
theorem sequencerOff_startedBus {s : State} {x : Nat} (h : s.pbi = PeerBus.start x) :
    s.sequencerOff.pbi = s.pbi ∧ s.sequencerOff.mfe = { s.mfe with insClock := none } := by
  unfold State.sequencerOff
  split <;>
    simp [State.withdrawIntent, PeerBus.attempting, h, State.setSeq, State.clearSums, Seq.samplingClock, PeerBus.start]

/-- A change of mode to another than RUN at a started interface, but for the session (R96, R165). -/
theorem modeReport_started {s : State} {x : Nat} (hmode : s.mdu.mode ≠ .run) (hbus : s.pbi = PeerBus.start x) :
    s.modeReport.pbi = s.pbi ∧ s.modeReport.mfe = { s.mfe with insClock := none } ∧ s.modeReport.emt = s.emt ∧
    s.modeReport.slu = s.slu ∧ s.modeReport.thu.stepTimer = s.thu.stepTimer ∧ s.modeReport.imon.seq = .off := by
  have hshut : s.shareMode.applyDuty.monitorMode.mayOpen = false := by simp [State.mayOpen, hmode]
  have hmonitor : s.shareMode.applyDuty.monitorMode = s.shareMode.applyDuty.sequencerOff := by
    simp [State.monitorMode, hmode]
  have hshare : s.shareMode = s.shareLeavesRun := by simp [State.shareMode, hmode]
  obtain ⟨hpbi, hmfe⟩ := sequencerOff_startedBus (s := s.shareMode.applyDuty) (x := x) (by simp [hbus])
  rw [State.modeReport, openingTest_of_not_mayOpen hshut, hmonitor, hpbi, hmfe, (sequencerOff_spec _).1, hshare]
  simp [State.shareLeavesRun]

/-- What the entry into LISTENING leaves before held PWR_FAIL is examined (R166, R170). -/
theorem beginListening_spec (s : State) :
    s.beginListening.mdu = { s.mdu with
      mode := .listening, settling := none, listening := 0,
      beaconTimer := some (64000 * 2 ^ s.mdu.cfg.beaconCode) } ∧
    s.beginListening.pbi = PeerBus.start s.pbi.random ∧
    s.beginListening.mfe = { FrontEnd.start with scanning := true, scanTimer := some 10000 } ∧
    s.beginListening.emt = s.emt ∧ s.beginListening.slu = s.slu ∧
    s.beginListening.flu = { s.flu with alert := s.flu.flags &&& ~~~ s.mdu.cfg.alertMask != 0 } ∧
    s.beginListening.thu.stepTimer = some 62500 ∧ s.beginListening.HeaterSafe := by
  have hheat : s.beginListening.HeaterSafe :=
    modeReport_heaterSafe (by simp [State.HtrSafe, State.startConverters, Thermal.start])
  obtain ⟨hpbi, hmfe, hemt, hslu, hstep, -⟩ := modeReport_started (x := s.pbi.random)
    (s := { s with mdu.mode := .listening, mdu.settling := none, mdu.listening := 0
      }.startConverters.startBus.startBeacons.updateAlert)
    (by simp [State.startBeacons, State.startBus, State.startConverters])
    (by simp [State.startBeacons, State.startBus, State.startConverters])
  refine ⟨?_, ?_, ?_, ?_, ?_, ?_, ?_, hheat⟩
  · simp [State.beginListening, State.startBeacons, State.startBus, State.startConverters, State.beaconPeriod]
  · exact hpbi.trans (by simp [State.startBus, State.startConverters])
  · exact hmfe.trans (by simp [State.startBus, State.startConverters, FrontEnd.start, scanPeriod])
  · exact hemt.trans (by simp [State.startBus, State.startConverters])
  · exact hslu.trans (by simp [State.startBus, State.startConverters])
  · simp [State.beginListening, State.updateAlert, State.alertLevel, State.maskInForce, State.startBeacons,
      State.startBus, State.startConverters]
  · exact hstep.trans (by simp [State.startBus, State.startConverters, stepTime])

/-- PWR_FAIL with no session OPEN touches the session state, the sequencer, the claim and the duty alone (R171). -/
theorem takePowerFail_closed {s : State} {x : Nat} (ho : s.slu.session.isOpen = false)
    (hbus : s.pbi = PeerBus.start x) :
    s.takePowerFail.pbi = s.pbi ∧ s.takePowerFail.mfe = { s.mfe with insClock := none } ∧
    s.takePowerFail.emt = s.emt ∧ s.takePowerFail.slu.table = s.slu.table ∧ s.takePowerFail.flu = s.flu ∧
    s.takePowerFail.store = s.store ∧ s.takePowerFail.thu.stepTimer = s.thu.stepTimer := by
  have hreturn : ∀ u : State, u.returnToIdle.slu.table = u.slu.table ∧
      u.returnToIdle.thu.stepTimer = u.thu.stepTimer := by
    intro u
    obtain ⟨-, e⟩ | ⟨-, e⟩ := returnToIdle_cases u <;> simp [e]
  have hsession : ∀ u : State, u.slu.session.isOpen = false →
      u.sessionPowerFail.pbi = u.pbi ∧ u.sessionPowerFail.mfe = u.mfe ∧ u.sessionPowerFail.emt = u.emt ∧
      u.sessionPowerFail.slu.table = u.slu.table ∧ u.sessionPowerFail.flu = u.flu ∧
      u.sessionPowerFail.store = u.store ∧ u.sessionPowerFail.thu.stepTimer = u.thu.stepTimer := by
    intro u hu
    unfold State.sessionPowerFail
    cases hx : u.slu.session with
    | opened r left => simp [hx, Session.isOpen] at hu
    | pending id left => simp [hreturn]
    | _ => simp
  obtain ⟨hpbi, hmfe⟩ := sequencerOff_startedBus (x := x)
    (s := { s with mdu.mode := .powerHold, mdu.dormantTimer := .stopped }.shareShutdown.thermalShutdown) (by simpa)
  obtain ⟨h1, h2, h3, h4, h5, h6, h7⟩ := hsession s.powerHolds (by simpa using ho)
  exact ⟨h1.trans (hpbi.trans (by simp)), h2.trans (hmfe.trans (by simp)), h3.trans (by simp), h4.trans (by simp),
    h5.trans (by simp), h6.trans (by simp), h7.trans (by simp)⟩

/-- What the entry into LISTENING leaves (R166, R170, R171, R174). -/
theorem enterListening_spec {s : State} (h : s.mdu.heldPwrFail = true → s.slu.session.isOpen = false) :
    s.enterListening.mdu.mode =
      (if s.mdu.heldPwrFail = true ∧ s.pins.pwrFail = true then .powerHold else .listening) ∧
    s.enterListening.mdu.heldPwrFail = false ∧ s.enterListening.mdu.settling = none ∧
    s.enterListening.mdu.listening = 0 ∧ s.enterListening.mdu.scan = s.mdu.scan ∧
    s.enterListening.mdu.beaconTimer = some (64000 * 2 ^ s.mdu.cfg.beaconCode) ∧
    s.enterListening.mdu.cfg = s.mdu.cfg ∧
    s.enterListening.mfe = { FrontEnd.start with scanning := true, scanTimer := some 10000 } ∧
    s.enterListening.pbi = PeerBus.start s.pbi.random ∧ s.enterListening.emt = s.emt ∧
    s.enterListening.slu.table = s.slu.table ∧
    s.enterListening.flu = { s.flu with alert := s.flu.flags &&& ~~~ s.mdu.cfg.alertMask != 0 } ∧
    s.enterListening.store = s.store ∧ s.enterListening.thu.stepTimer = some 62500 ∧
    s.enterListening.thu.htr = false := by
  obtain ⟨hmdu, hpbi, hmfe, hemt, hslu, hflu, hstep, hheat⟩ := beginListening_spec s
  have hexamine : s.enterListening = s.beginListening.examineHeld := rfl
  rw [hexamine, State.examineHeld]
  by_cases hheld : s.mdu.heldPwrFail = true ∧ s.pins.pwrFail = true
  · rw [if_pos (by simpa [hmdu] using hheld), if_pos hheld]
    generalize hu : ({ s.beginListening with mdu.heldPwrFail := false } : State) = u
    have humdu : u.mdu = { s.beginListening.mdu with heldPwrFail := false } := by rw [← hu]
    have huslu : u.slu = s.slu := by rw [← hu]; exact hslu
    have huflu : u.flu = s.beginListening.flu := by rw [← hu]
    have hustore : u.store = s.store := by simp [← hu]
    obtain ⟨hpbi', hmfe', hemt', htable', hflu', hstore', hstep'⟩ := takePowerFail_closed (s := u) (x := s.pbi.random)
      (by rw [huslu, h hheld.1]) (by rw [← hu]; exact hpbi)
    obtain ⟨hm, -, hsafe, -⟩ := takePowerFail_spec u
    obtain ⟨-, hhtr⟩ := heater_outside_run (by simp [hm]) hsafe
    rw [humdu, hmdu] at hm
    have hmfe'' : u.mfe = s.beginListening.mfe := by rw [← hu]
    refine ⟨by rw [hm], by rw [hm], by rw [hm], by rw [hm], by rw [hm], by rw [hm], by rw [hm],
      hmfe'.trans (by rw [hmfe'', hmfe]; rfl), hpbi'.trans (by rw [← hu]; exact hpbi),
      hemt'.trans (by rw [← hu]; exact hemt), htable'.trans (by rw [huslu]), hflu'.trans (huflu.trans hflu),
      hstore'.trans hustore, hstep'.trans (by rw [← hu]; exact hstep), hhtr⟩
  · obtain ⟨-, hhtr⟩ := heater_outside_run (s := s.beginListening) (by simp) hheat
    rw [if_neg (by simpa [hmdu] using hheld), if_neg hheld]
    exact ⟨by simp, rfl, by simp [hmdu], by simp [hmdu], by simp [hmdu], by simp [hmdu], by simp, hmfe, hpbi, hemt,
      by rw [hslu], hflu, by simp, hstep, hhtr⟩

/-- Settles O49, by what the entry into LISTENING leaves. -/
theorem listeningBegins : Obligations.ListeningBegins := by
  intro left s hm hsettle hleft ho
  obtain ⟨hmode, hheld, hset, hlisten, -, hbeacon, hcfg, hmfe, hpbi, -, htable, hflu, hstore, hstep, hhtr⟩ :=
    enterListening_spec (s := s) fun _ => ho
  have hexec : exec .wakeSettlingEnd s = .next s.enterListening := by
    refine congrArg Host.Outcome.next (if_pos ⟨hm, ?_⟩)
    simp [hasRun, hsettle, settleTime, hleft]
  exact ⟨_, hexec, hmode, hheld, hset, hlisten, hbeacon, hcfg, by rw [hmfe]; rfl, by rw [hmfe]; rfl, by rw [hmfe],
    by rw [hmfe], hstep, hhtr, hpbi, by rw [hflu], by rw [hflu], by simp, hstore, htable, by simp⟩

/-! ## The end of START (R166 to R168) -/

theorem exec_imageRead {s : State} (hm : s.mdu.mode = .start) (hi : ∃ left, s.mdu.image = .reading left)
    (image : List Byte) : exec (.imageReadComplete image) s = .next (s.checkImage image).startTest := by
  obtain ⟨left, hi⟩ := hi
  exact congrArg Host.Outcome.next (if_pos (by simp [State.readingImage, hm, hi]))

theorem startTest_passed {s : State} {cfg : ImageConfig} (hm : s.mdu.mode = .start) (hi : s.mdu.image = .passed cfg)
    (hscan : s.mdu.scan = .done) : s.startTest = s.endStartPassed cfg := by
  simp [State.startTest, hm, hi, hscan]

theorem startTest_failed {s : State} (hm : s.mdu.mode = .start) (hi : s.mdu.image = .failed)
    (hscan : s.mdu.scan = .done) : s.startTest = s.endStartFailed := by
  simp [State.startTest, hm, hi, hscan]

/-- Settles O2: a passed image ends START by the entry into LISTENING under its fields. -/
theorem passedImageEndsStart : Obligations.PassedImageEndsStart := by
  intro image s hm hi hscan hheld hpass
  obtain ⟨cfg, hcheck⟩ := Option.ne_none_iff_exists'.1 hpass
  have hcfg : cfg = imageFields image := by
    unfold imageCheck at hcheck
    split at hcheck
    · exact (Option.some.inj hcheck).symm
    · cases hcheck
  subst hcfg
  have hchecked : s.checkImage image = { s with mdu.image := .passed (imageFields image) } := by
    rw [State.checkImage, hcheck]
  have hend : (s.checkImage image).startTest =
      State.endStartPassed (imageFields image) { s with mdu.image := .passed (imageFields image) } := by
    rw [hchecked]
    exact startTest_passed hm rfl hscan
  obtain ⟨hmode, hdrop, -, hlisten, -, hbeacon, hcfg, hmfe, hpbi, hemt, htable, hflu, hstore, hstep, -⟩ :=
    enterListening_spec (s := { s with
      mdu.image := .passed (imageFields image), mdu.cfg := imageFields image,
      emt.qraw := quantumOf (imageFields image).gain }) hheld
  have hexec := exec_imageRead hm hi image
  rw [hend] at hexec
  exact ⟨_, hexec, hmode, hdrop, hcfg, hlisten, hbeacon, congrArg Meter.qraw hemt, congrArg FrontEnd.count hmfe,
    congrArg FrontEnd.line hmfe, congrArg FrontEnd.scanning hmfe, hstep, hpbi, (congrArg FaultUnit.flags hflu :),
    congrArg FaultUnit.alert hflu, by simp, hstore, htable⟩

/-- What the end of START with a failed check leaves (R166, R168, R171). -/
theorem endStartFailed_spec (s : State) :
    s.endStartFailed.mdu = { s.mdu with
      mode := .configHold, heldPwrFail := false, beaconTimer := some 128000 } ∧
    s.endStartFailed.flu = { s.flu with alert := s.flu.flags != 0 } ∧ s.endStartFailed.imon.seq = .off := by
  have hempty : s.flu.flags &&& 4095#12 = s.flu.flags := BitVec.and_allOnes
  obtain ⟨-, -, -, -, -, hseq⟩ := modeReport_started (x := s.pbi.random)
    (s := { s with mdu.mode := .configHold, mdu.heldPwrFail := false
      }.startConverters.startBus.startBeacons.updateAlert)
    (by simp [State.startBeacons, State.startBus, State.startConverters])
    (by simp [State.startBeacons, State.startBus, State.startConverters])
  refine ⟨?_, ?_, hseq⟩
  · simp [State.endStartFailed, State.startBeacons, State.startBus, State.startConverters, State.beaconPeriod]
  · simp [State.endStartFailed, State.updateAlert, State.alertLevel, State.maskInForce, State.startBeacons,
      State.startBus, State.startConverters, hempty]

/-- A failed check with the start scan done ends START in CONFIG_HOLD. -/
theorem failImage_ends {s : State} (hm : s.mdu.mode = .start) (hscan : s.mdu.scan = .done) :
    s.failImage.startTest = s.failImage.endStartFailed := startTest_failed hm rfl hscan

/-- Settles O3: the check fails in START, and the end of START follows it. -/
theorem failedImageEndsStart : Obligations.FailedImageEndsStart := by
  intro c s hm hi hscan hcase
  have hexec : exec c s = .next s.failImage.endStartFailed := by
    rw [← failImage_ends hm hscan]
    obtain ⟨rfl, htime⟩ | ⟨image, rfl, hcheck⟩ := hcase
    · obtain ⟨left, hi⟩ := hi
      refine congrArg Host.Outcome.next ?_
      simp only [hm, hi]
      exact if_pos (htime left hi)
    · rw [exec_imageRead hm hi, State.checkImage, hcheck]
  obtain ⟨hmdu, hflu, hseq⟩ := endStartFailed_spec s.failImage
  have hlatched : FlagSet.insert s.flu.flags .config = s.flu.flags ||| 0x100#12 := rfl
  refine ⟨_, hexec, by rw [hmdu], by rw [hflu]; rfl, ?_, by rw [hmdu], by rw [hmdu], by rw [hmdu]; rfl, hseq,
    by simp, by simp, by simp⟩
  rw [hflu]
  refine bne_iff_ne.2 fun hzero => ?_
  have hbit := congrArg (fun x : FlagSet => x.getLsbD 8) (hlatched.symm.trans hzero)
  simp at hbit

/-! ## The start scan (R148) -/

/-- The sequence found in a slot, byte by byte (R178). -/
theorem committedSeq_eq (m : Memory) (slot : Fin 16) :
    committedSeq m slot =
      if readByte m (48 * slot.val + 47) = 0x5A then
        some ((readByte m (48 * slot.val)).toNat * 16777216 + (readByte m (48 * slot.val + 1)).toNat * 65536 +
          (readByte m (48 * slot.val + 2)).toNat * 256 + (readByte m (48 * slot.val + 3)).toNat)
      else none := by
  have hmark : slotAddr slot markerOffset = 48 * slot.val + 47 := by
    simp [slotAddr, slotSize, markerOffset, Nat.mul_comm]
  have hbase : slotAddr slot 0 = 48 * slot.val := by simp [slotAddr, slotSize, Nat.mul_comm]
  have hseq : rd32 (readBytes m (48 * slot.val) 4) 0 = (readByte m (48 * slot.val)).toNat * 16777216 +
      (readByte m (48 * slot.val + 1)).toNat * 65536 + (readByte m (48 * slot.val + 2)).toNat * 256 +
      (readByte m (48 * slot.val + 3)).toNat := by
    simp only [rd32, rd16, rd8, readBytes, List.getD_cons_zero, List.getD_cons_succ, Nat.add_assoc]
    ring
  rw [committedSeq, hmark, hbase, hseq, markerValue]

theorem exec_markerRead {s : State} {slot : Fin 16} {left : Nat} (hm : s.mdu.mode = .start)
    (hscan : s.mdu.scan = .reading slot left) :
    exec .markerReadComplete s = .next (s.scanSlot slot (committedSeq s.store slot)).startTest := by
  refine congrArg Host.Outcome.next ?_
  simp [State.scanFound, hm, hscan]

theorem exec_markerTimeout {s : State} {slot : Fin 16} {left : Nat} (hm : s.mdu.mode = .start)
    (hscan : s.mdu.scan = .reading slot left) (hleft : left < 1000) :
    exec .markerReadTimeout s = .next (s.scanSlot slot none).startTest := by
  refine congrArg Host.Outcome.next ?_
  simp [State.scanFound, hm, hscan, markerTime, hleft]

/-- Before the last slot the scan goes on (R148). -/
theorem scanSlot_continues {s : State} {slot : Fin 16} (hslot : slot.val < 15) (found : Option Nat) :
    (s.scanSlot slot found).startTest =
      { s with slu.table := s.slu.table.set slot.val found, mdu.scan := .reading (slot + 1) 1000 } := by
  have hscan : s.scanSlot slot found =
      { s with slu.table := s.slu.table.set slot.val found, mdu.scan := .reading (slot + 1) 1000 } := by
    rw [State.scanSlot, if_neg (by omega)]
    rfl
  rw [hscan]
  simp [State.startTest]

/-- At the last slot the scan is done, and START ends with it when the image check has completed (R148, R166). -/
theorem scanSlot_last {s : State} (hm : s.mdu.mode = .start) (found : Option Nat)
    (hheld : s.mdu.heldPwrFail = true → s.slu.session.isOpen = false) {t : State}
    (ht : t = (s.scanSlot 15 found).startTest) :
    t.mdu.scan = .done ∧ t.store = s.store ∧ t.clock = s.clock ∧ t.slu.table = s.slu.table.set 15 found ∧
      match s.mdu.image with
      | .reading _ => t.mdu.mode = .start ∧ t.flu = s.flu
      | .failed => t.mdu.mode = .configHold ∧ t.mdu.heldPwrFail = false ∧ t.mdu.beaconTimer = some 128000
      | .passed cfg =>
        t.mdu.mode = (if s.mdu.heldPwrFail = true ∧ s.pins.pwrFail = true then .powerHold else .listening) ∧
        t.mdu.heldPwrFail = false ∧ t.mdu.cfg = cfg ∧
        t.mdu.beaconTimer = some (64000 * 2 ^ cfg.beaconCode) := by
  subst ht
  cases hi : s.mdu.image with
  | reading left =>
    have hstay : (s.scanSlot 15 found).startTest = s.scanSlot 15 found := by
      simp [State.startTest, State.scanSlot, hm, hi]
    rw [hstay]
    exact ⟨rfl, rfl, rfl, rfl, hm, rfl⟩
  | failed =>
    obtain ⟨hmdu, -, -⟩ := endStartFailed_spec (s.scanSlot 15 found)
    rw [startTest_failed (s := s.scanSlot 15 found) hm hi rfl]
    exact ⟨by rw [hmdu]; rfl, by simp, by simp, by simp [State.scanSlot], by rw [hmdu], by rw [hmdu], by rw [hmdu]⟩
  | passed cfg =>
    obtain ⟨hmode, hdrop, -, -, hscan, hbeacon, hcfg, -, -, -, htable, -, hstore, -, -⟩ :=
      enterListening_spec (s := { s.scanSlot 15 found with mdu.cfg := cfg, emt.qraw := quantumOf cfg.gain }) hheld
    rw [startTest_passed (s := s.scanSlot 15 found) hm hi rfl]
    exact ⟨hscan, hstore, by simp, htable, hmode, hdrop, hcfg, hbeacon⟩

/-- Settles O5: each marker read enters its slot, and the last one may end START. -/
theorem markerReads : Obligations.MarkerReads := by
  refine ⟨fun slot left s hm hscan hslot => ⟨?_, fun hleft => ?_⟩, fun c left s hm hscan hheld hcase => ?_⟩
  · rw [exec_markerRead hm hscan, scanSlot_continues hslot, committedSeq_eq]
  · rw [exec_markerTimeout hm hscan hleft, scanSlot_continues hslot]
  · obtain rfl | ⟨rfl, hleft⟩ := hcase
    · obtain ⟨h1, h2, h3, h4, h5⟩ := scanSlot_last hm (committedSeq s.store 15) hheld rfl
      refine ⟨_, exec_markerRead hm hscan, h1, h2, h3, ?_, ?_⟩
      · rw [h4, committedSeq_eq]
        simp
      · cases hi : s.mdu.image <;> simpa only [hi] using h5
    · obtain ⟨h1, h2, h3, h4, h5⟩ := scanSlot_last hm none hheld rfl
      refine ⟨_, exec_markerTimeout hm hscan hleft, h1, h2, h3, ?_, ?_⟩
      · rw [h4]
        simp
      · cases hi : s.mdu.image <;> simpa only [hi] using h5

/-! ## The image check (R167) -/

theorem ascendingCurve_pairwise {l : List (Int × Nat)} (h : ascendingCurve l = true) :
    l.Pairwise fun p q => p.1 < q.1 := by
  rw [← List.isChain_iff_pairwise]
  induction l with
  | nil => exact .nil
  | cons a rest ih =>
    cases rest with
    | nil => exact .singleton a
    | cons b rest =>
      obtain ⟨hab, hrest⟩ : a.1 < b.1 ∧ ascendingCurve (b :: rest) = true := by simpa [ascendingCurve] using h
      exact .cons_cons hab (ih hrest)

theorem imageSum_eq (image : List Byte) : imageSum image = (image.map BitVec.toNat).sum % 256 := by
  have hfold : ∀ (l : List Byte) (n : Nat), l.foldl (fun n b => n + b.toNat) n = n + (l.map BitVec.toNat).sum := by
    intro l
    induction l with
    | nil => simp
    | cons b rest ih => intro n; simp [ih, Nat.add_assoc]
  rw [imageSum, hfold, Nat.zero_add]

theorem inRange_iff {lo hi x : Nat} : inRange lo hi x = true ↔ lo ≤ x ∧ x ≤ hi := by simp [inRange]

theorem tempInRange_iff {t : Int} : tempInRange t = true ↔ -500 ≤ t ∧ t ≤ 1499 := by simp [tempInRange]

/-- Settles O4: the tests of the check are the ranges and orderings of section 10.3. -/
theorem imageCheckSound : Obligations.ImageCheckSound := by
  intro image phase cfg h
  unfold imageCheck at h
  split at h
  · next htests =>
    obtain ⟨hlen, hformat, hsum, hwake, hphase, hok⟩ := htests
    obtain rfl := Option.some.inj h
    rw [imageSum_eq] at hsum
    generalize imageFields image = cfg at hok
    simp only [ImageConfig.ok, Bool.and_eq_true, inRange_iff, tempInRange_iff, decide_eq_true_eq, List.all_eq_true,
      phaseSamples] at hok
    obtain ⟨⟨⟨⟨⟨⟨hok, hcurve⟩, hpoints⟩, hasc⟩, htemp⟩, hfault⟩, hcrop⟩ := hok
    have hcrop := of_decide_eq_true hcrop
    have hpairs := ascendingCurve_pairwise hasc
    refine ⟨hlen, hformat, hsum, hwake, hphase, htemp, hfault, hcrop, ?_⟩
    have hpoints' : ∀ p ∈ cfg.curve, -500 ≤ p.1 ∧ p.1 ≤ 1499 ∧ p.2 ≤ 400 := fun p hp =>
      ⟨(hpoints p hp).1.1, (hpoints p hp).1.2, (hpoints p hp).2.2⟩
    tauto
  · cases h

end Sys2Proof.Machine
end

section
/-! PROOF. The metering pair: the RMS root, samples, cycles and the line state (O6 to O9). -/

namespace Sys2Proof.Machine

/-! ## The root (R10) -/

/-- Each bit keeps the root at or below the argument and the next candidate above it. -/
theorem isqrtBits_spec (x : Nat) {b r : Nat} (hle : r * r ≤ x) (hlt : x < (r + 2 ^ b) * (r + 2 ^ b)) :
    isqrtBits x b r * isqrtBits x b r ≤ x ∧ x < (isqrtBits x b r + 1) * (isqrtBits x b r + 1) := by
  induction b generalizing r with
  | zero => exact ⟨hle, by simpa [isqrtBits] using hlt⟩
  | succ b ih =>
    rw [isqrtBits]
    split
    · next h => exact ih h (by rwa [Nat.add_assoc, ← Nat.two_mul, ← Nat.pow_succ'])
    · next h => exact ih hle (Nat.lt_of_not_le h)

theorem isqrt_spec (x : Nat) : isqrt x * isqrt x ≤ x ∧ x < (isqrt x + 1) * (isqrt x + 1) := by
  refine isqrtBits_spec x (by simp) ?_
  calc x < 2 ^ (Nat.log2 x + 1) := Nat.lt_log2_self
    _ ≤ 2 ^ ((Nat.log2 x / 2 + 1) + (Nat.log2 x / 2 + 1)) := Nat.pow_le_pow_right (by decide) (by omega)
    _ = _ := by rw [Nat.pow_add, Nat.zero_add]

/-- Settles O9: the root is exact, and the window's event publishes with n = 400. -/
theorem rmsWindow : Obligations.RmsWindow := by
  refine ⟨isqrt_spec, fun s hruns hline hn => congrArg Host.Outcome.next ?_⟩
  rw [if_pos ⟨hruns, hline, hn⟩]
  rfl

/-! ## Samples without an accepted crossing (R2, R3, R9, R11) -/

theorem meteringCode_of_range {x : Int} (hlo : -32768 ≤ x) (hhi : x ≤ 32767) : meteringCode x = x := by
  simp only [meteringCode, limit]
  omega

/-- While the blocks run a sample within the range is taken as it is (R2). -/
theorem exec_meteringSample {s : State} (hruns : s.mdu.mode.runs = true) {v i : Int} (hv : -32768 ≤ v) (hv' : v ≤ 32767)
    (hi : -32768 ≤ i) (hi' : i ≤ 32767) (meterFirst : Bool) :
    exec (.meteringSample v i meterFirst) s = .next (s.takeMetering v i meterFirst) := by
  refine congrArg Host.Outcome.next ?_
  rw [meteringCode_of_range hv hv', meteringCode_of_range hi hi']
  exact if_pos hruns

theorem meterSample_idle {s : State} (h : s.emt.active = false) (v i : Int) : s.meterSample v i = s := by
  simp [State.meterSample, h]

/-- While the meter is idle a sample is one of line timing and RMS alone (R121). -/
theorem takeMetering_idle {s : State} {v i : Int} (hbefore : s.emt.active = false)
    (hafter : (s.lineSample v i).emt.active = false) (meterFirst : Bool) :
    s.takeMetering v i meterFirst = (s.lineSample v i).keepSample v := by
  unfold State.takeMetering
  split
  · rw [meterSample_idle hbefore]
  · exact meterSample_idle (by simpa using hafter) v i

/-- A sample that carries no crossing, or one that is not accepted, is a plain one (R3, R9). -/
theorem lineSample_plain {s : State} {v : Int}
    (h : v < 0 ∨ (∀ w, s.mfe.vPrev = some w → 0 ≤ w) ∨
      ∃ w old, s.mfe.vPrev = some w ∧ s.mfe.tAcc = some old ∧
        250 * s.mfe.count + ((250 * -w) / (v - w)).toNat < old + 5000) (i : Int) :
    s.lineSample v i = s.plainSample v i := by
  unfold State.lineSample
  split
  · next t ht =>
    refine if_neg ?_
    unfold FrontEnd.crossing at ht
    split at ht
    · next w hw =>
      split at ht
      · next hsign =>
        obtain hneg | hpos | ⟨w', old, hw', hold, hearly⟩ := h
        · omega
        · exact absurd (hpos w hw) (by omega)
        · obtain rfl : w = w' := by simpa [hw] using hw'
          obtain rfl := Option.some.inj ht
          simpa [FrontEnd.accepts, hold, sampleTime, samplePeriod, crossingGuard] using hearly
      · cases ht
    · cases ht
  · rfl

/-- Settles O6: a plain sample joins the sums, and the 400th of a window publishes it. -/
theorem sampleWithoutCrossing : Obligations.SampleWithoutCrossing := by
  refine ⟨fun v i meterFirst s => congrArg Host.Outcome.next ?_, ?_⟩
  · have hlimit : ∀ x : Int, meteringCode (max (-32768) (min 32767 x)) = meteringCode x := by
      intro x
      simp only [meteringCode, limit]
      omega
    rw [hlimit v, hlimit i]
  · intro v i meterFirst s hruns hidle hv hv' hi hi' hplain
    rw [exec_meteringSample hruns hv hv' hi hi']
    have htake : ∀ u, s.plainSample v i = u → u.emt.active = false →
        s.takeMetering v i meterFirst = u.keepSample v := by
      rintro u rfl hu
      rw [← lineSample_plain hplain] at hu ⊢
      exact takeMetering_idle hidle hu meterFirst
    refine ⟨fun hline hloss => ?_, fun hline hn => ?_, fun hline hn => ?_⟩
    · rw [htake { s with mfe := { s.mfe.addSample v i with loss := s.mfe.loss + 1 } } ?_ hidle]
      · rfl
      · rw [State.plainSample, if_neg hline, if_neg (by simp only [lossLimit]; omega)]
    · rw [htake { s with mfe := s.mfe.addSample v i } ?_ hidle]
      · rfl
      · rw [State.plainSample, if_pos hline, if_neg (by simp only [lossLimit]; omega)]
    · rw [htake { s with mfe := (s.mfe.addSample v i).publishWindow } ?_ hidle]
      · rfl
      · rw [State.plainSample, if_pos hline, if_pos (by simp only [lossLimit]; omega)]

/-! ## The loss of the line (R9, R142) -/

/-- A change of the line state to another than GOOD opens no session (R138). -/
theorem lineReport_bad {s : State} {before : LineState} (hne : s.mfe.line ≠ before) (hbad : s.mfe.line ≠ .good) :
    s.lineReport before =
      { s.shareLine before with slu.session := s.slu.session.lineChanged before s.mfe.line } := by
  rw [State.lineReport, if_neg hne]
  exact openingTest_of_not_mayOpen (by simp [State.mayOpen, hbad])

/-- What the loss of the line leaves (R9, R74, R89, R142). -/
theorem loseLine_spec {s : State} (hline : s.mfe.line ≠ .absent) :
    s.loseLine.mfe = { (s.mfe.enterLine .absent).clearRms with tAcc := none, loss := 0 } ∧
    s.loseLine.she.overdrawTimer = none ∧ s.loseLine.she.overdraw = false ∧ s.loseLine.emt = s.emt ∧
    s.loseLine.slu = { s.slu with session := s.slu.session.lineChanged s.mfe.line .absent } ∧
    (s.mfe.line = .good → s.loseLine.she.demand = 0 ∧ s.loseLine.she.claim = 0) := by
  have hreport := lineReport_bad (before := s.mfe.line)
    (s := { s with mfe := { (s.mfe.enterLine .absent).clearRms with tAcc := none, loss := 0 } })
    (by simpa [FrontEnd.enterLine, FrontEnd.clearRms] using hline.symm)
    (by simp [FrontEnd.enterLine, FrontEnd.clearRms])
  refine ⟨by simp [State.loseLine], ?_⟩
  rw [State.loseLine, hreport]
  refine ⟨?_, ?_, by simp, by simp [FrontEnd.enterLine, FrontEnd.clearRms], fun hgood => ⟨?_, ?_⟩⟩
  · unfold State.shareLine
    split <;> simp [State.overdrawAbsent, FrontEnd.enterLine, FrontEnd.clearRms]
  · unfold State.shareLine
    split <;> simp [State.overdrawAbsent, FrontEnd.enterLine, FrontEnd.clearRms]
  · simp [State.shareLine, hgood]
  · have hbar : ∀ u : State, u.mfe.line = .absent → u.recompute.she.claim = 0 := by
      intro u hu
      simp [recompute_claim, computedClaim_barred (claimBarred_of_line (s := u) (by simp [hu]))]
    simp only [State.shareLine, hgood, if_true]
    exact hbar _ (by simp [State.overdrawAbsent, FrontEnd.enterLine, FrontEnd.clearRms])

/-- Settles O8: the loss event and the 400th plain sample both lose the line. -/
theorem lineLost : Obligations.LineLost := by
  intro c s hruns hline hcase
  obtain ⟨hmfe, htimer, hover, hemt, hslu, hgood⟩ := loseLine_spec hline
  have hopen : s.mfe.line = .good → ∀ r tm, s.slu.session = .opened r tm →
      s.loseLine.slu.session = .opened r (some 30000000) := by
    intro h r tm hs
    rw [hslu, hs, h]
    rfl
  obtain rfl | ⟨v, i, b, rfl, hneg, hloss, hidle⟩ := hcase
  · have hexec : exec .lossCountReached s = .next s.loseLine :=
      congrArg Host.Outcome.next (if_pos ⟨hruns, hline⟩)
    refine ⟨_, hexec, ?_⟩
    rw [hmfe]
    exact ⟨rfl, rfl, rfl, rfl, rfl, rfl, rfl, rfl, rfl, rfl, by simp, htimer, hover,
      fun h => ⟨(hgood h).1, (hgood h).2, hopen h⟩, by simp, by simp, by simp, by simp, by simp⟩
  · have hsample : s.lineSample (meteringCode v) (meteringCode i) = s.loseLine := by
      rw [lineSample_plain (.inl (by simp only [meteringCode, limit]; omega)), State.plainSample, if_neg hline,
        if_pos (by simp [hloss, lossLimit])]
    have hexec : exec (.meteringSample v i b) s = .next (s.loseLine.keepSample (meteringCode v)) := by
      rw [← hsample, ← takeMetering_idle hidle (by rw [hsample, hemt, hidle]) b]
      exact congrArg Host.Outcome.next (if_pos hruns)
    refine ⟨_, hexec, ?_⟩
    rw [State.keepSample, hmfe]
    exact ⟨rfl, rfl, rfl, rfl, rfl, rfl, rfl, rfl, rfl, rfl, by simp, htimer, hover,
      fun h => ⟨(hgood h).1, (hgood h).2, hopen h⟩, by simp, by simp, by simp, by simp, by simp⟩

/-! ## Crossings (R3 to R8, R89 to R92) -/

theorem crossing_of_sign {m : FrontEnd} {v w : Int} (hprev : m.vPrev = some w) (hw : w < 0) (hv : 0 ≤ v) :
    m.crossing v = some (250 * m.count + ((250 * -w) / (v - w)).toNat) := by
  simp [FrontEnd.crossing, hprev, hw, hv, sampleTime, samplePeriod]

/-- The line state after the two verdicts of a cycle (R6, R7, R8). -/
theorem judge_lineAfter (m : FrontEnd) (period urms : Nat) :
    LineAfter m.line m.settle m.badPeriod m.badUrms period urms
      (m.judge (periodInRange period) (urmsInRange urms)).line
      (m.judge (periodInRange period) (urmsInRange urms)).settle
      (m.judge (periodInRange period) (urmsInRange urms)).badPeriod
      (m.judge (periodInRange period) (urmsInRange urms)).badUrms := by
  have hperiod : PeriodGood period ↔ periodInRange period = true := by simp [periodInRange]
  have hurms : UrmsGood urms ↔ urmsInRange urms = true := by simp [urmsInRange]
  unfold LineAfter FrontEnd.judge
  simp only [hperiod, hurms]
  generalize periodInRange period = p
  generalize urmsInRange urms = u
  cases hline : m.line with
  | settling =>
    by_cases hlast : m.settle + 1 < 8
    · cases p <;> cases u <;> simp [hlast, Nat.not_le.2 hlast]
    · cases p <;> cases u <;> simp [hlast, Nat.not_lt.1 hlast, FrontEnd.enterLine]
  | good =>
    have hiff : ((¬ p = true ∧ 3 ≤ m.badPeriod + 1) ∨ (¬ u = true ∧ 3 ≤ m.badUrms + 1)) ↔
        (3 ≤ badCount p m.badPeriod ∨ 3 ≤ badCount u m.badUrms) := by
      cases p <;> cases u <;> simp [badCount]
    by_cases hbad : 3 ≤ badCount p m.badPeriod ∨ 3 ≤ badCount u m.badUrms
    · rw [if_pos hbad, if_pos (hiff.2 hbad)]
      exact ⟨rfl, rfl, rfl, rfl⟩
    · rw [if_neg hbad, if_neg (hiff.not.2 hbad)]
      exact ⟨rfl, rfl, rfl, rfl⟩
  | fault => cases p <;> cases u <;> simp [hline, FrontEnd.enterLine]
  | absent => trivial

@[simp] theorem State.openingTest_overdraw (s : State) :
    s.openingTest.she.overdraw = s.she.overdraw ∧ s.openingTest.she.overdrawTimer = s.she.overdrawTimer := by
  obtain ⟨id, -, -, -, e⟩ | e := openingTest_cases s <;> simp [e, State.openSession]

/-- The latch of LINE leaves the front end, the drawn claim's timer and the store (R7, R156). -/
theorem latchLine_fields (s : State) :
    (s.latch .line).mfe = s.mfe ∧ (s.latch .line).store = s.store ∧
    (s.latch .line).she.overdraw = s.she.overdraw ∧ (s.latch .line).she.overdrawTimer = s.she.overdrawTimer := by
  obtain e | e | e := latch_cases (f := .line) (.inl rfl) (by decide) s <;>
    simp [e, State.raiseFlag]

/-- A report of another change than one to ABSENT leaves the overdraw check (R89, R92). -/
theorem lineReport_overdraw {s : State} {before : LineState} (hline : s.mfe.line = .absent → before = .absent) :
    (s.lineReport before).she.overdraw = s.she.overdraw ∧
    (s.lineReport before).she.overdrawTimer = s.she.overdrawTimer := by
  unfold State.lineReport
  split
  · exact ⟨rfl, rfl⟩
  · next hne =>
    have hpresent : s.mfe.line ≠ .absent := fun h => hne (h.trans (hline h).symm)
    rw [(State.openingTest_overdraw _).1, (State.openingTest_overdraw _).2]
    unfold State.shareLine
    split <;> simp [State.overdrawAbsent, hpresent]

theorem closed_line (m : FrontEnd) (old t : Nat) (v i : Int) :
    LineAfter m.line m.settle m.badPeriod m.badUrms (t - old) (isqrt (m.sumV2 * 256 / (10000 * m.n)))
      (m.closed old t v i).line (m.closed old t v i).settle (m.closed old t v i).badPeriod
      (m.closed old t v i).badUrms := judge_lineAfter m.publish _ _

/-- The verdicts leave everything but the line state and its counters (R6 to R8). -/
theorem judge_fields (m : FrontEnd) (p u : Bool) :
    (m.judge p u).urms = m.urms ∧ (m.judge p u).irms = m.irms ∧ (m.judge p u).record = m.record ∧
    (m.judge p u).count = m.count ∧ ((m.judge p u).line = .absent ↔ m.line = .absent) := by
  unfold FrontEnd.judge
  repeat' split
  all_goals simp_all [FrontEnd.enterLine]

/-- The overdraw check holds the cycle's Irms against the limit formed from D (R89, R92). -/
theorem overdrawCheck_spec (s : State) (irms : Nat) :
    (s.overdrawCheck irms).mfe = s.mfe ∧ (s.overdrawCheck irms).she.drawn = s.she.drawn ∧
    (s.overdrawCheck irms).she.overdraw =
      (s.she.overdraw && decide (s.she.drawn + s.she.drawn / 10 + 5 < irms)) ∧
    (irms ≤ s.she.drawn + s.she.drawn / 10 + 5 →
      (s.overdrawCheck irms).she.overdrawTimer =
        if s.she.overdraw = true ∨ s.mdu.mode = .run then none else s.she.overdrawTimer) ∧
    (s.she.drawn + s.she.drawn / 10 + 5 < irms →
      (s.overdrawCheck irms).she.overdrawTimer =
        if s.she.overdraw = false ∧ s.mdu.mode = .run then some (s.she.overdrawTimer.getD 1000000)
        else s.she.overdrawTimer) ∧
    (s.overdrawCheck irms).flu = s.flu ∧ (s.overdrawCheck irms).store = s.store := by
  by_cases hlimit : s.she.drawn + s.she.drawn / 10 + 5 < irms
  · cases hover : s.she.overdraw <;> by_cases hrun : s.mdu.mode = .run <;> cases htimer : s.she.overdrawTimer <;>
      simp [State.overdrawCheck, overdrawLimit, overdrawTimerAfter, overdrawTime, hlimit, hover, hrun, htimer,
        Nat.not_le.2 hlimit]
  · cases hover : s.she.overdraw <;> by_cases hrun : s.mdu.mode = .run <;>
      simp [State.overdrawCheck, overdrawLimit, overdrawTimerAfter, hlimit, hover, hrun, Nat.not_lt.1 hlimit]

/-- What an accepted crossing that closes a cycle leaves (R3 to R8, R10, R89, R92). -/
theorem closeCycle_spec (s : State) (old t : Nat) (v i : Int) :
    (s.closeCycle old t v i).mfe = s.mfe.closed old t v i ∧ (s.closeCycle old t v i).store = s.store ∧
    (s.mfe.line = .good → (s.closeCycle old t v i).mfe.line = .fault →
      (s.closeCycle old t v i).latched .line = true) ∧
    (s.closeCycle old t v i).she.overdraw = (s.she.overdraw &&
      decide ((s.closeCycle old t v i).she.drawn + (s.closeCycle old t v i).she.drawn / 10 + 5 <
        (s.closeCycle old t v i).mfe.irms)) ∧
    ((s.closeCycle old t v i).mfe.irms ≤
        (s.closeCycle old t v i).she.drawn + (s.closeCycle old t v i).she.drawn / 10 + 5 →
      (s.closeCycle old t v i).she.overdrawTimer =
        if s.she.overdraw = true ∨ s.mdu.mode = .run then none else s.she.overdrawTimer) ∧
    ((s.closeCycle old t v i).she.drawn + (s.closeCycle old t v i).she.drawn / 10 + 5 <
        (s.closeCycle old t v i).mfe.irms →
      (s.closeCycle old t v i).she.overdrawTimer =
        if s.she.overdraw = false ∧ s.mdu.mode = .run then some (s.she.overdrawTimer.getD 1000000)
        else s.she.overdrawTimer) := by
  generalize hr : State.lineReport s.mfe.line { s with mfe := s.mfe.closed old t v i } = r
  generalize hu : r.lineLatch s.mfe.line = u
  have hclose : s.closeCycle old t v i = u.overdrawCheck (irmsOf s.mfe.sumI2 s.mfe.n) := by
    rw [← hu, ← hr]
    rfl
  have hjudge := judge_fields s.mfe.publish (periodInRange (t - old)) (urmsInRange s.mfe.publish.urms)
  have hirms : (s.mfe.closed old t v i).irms = irmsOf s.mfe.sumI2 s.mfe.n := hjudge.2.1
  have hrmfe : r.mfe = s.mfe.closed old t v i := by simp [← hr]
  have hrover := lineReport_overdraw (s := { s with mfe := s.mfe.closed old t v i }) (before := s.mfe.line)
    hjudge.2.2.2.2.1
  rw [hr] at hrover
  have hlatch : u.mfe = r.mfe ∧ u.store = r.store ∧ u.she.overdraw = r.she.overdraw ∧
      u.she.overdrawTimer = r.she.overdrawTimer := by
    rw [← hu, State.lineLatch]
    split
    · exact latchLine_fields r
    · exact ⟨rfl, rfl, rfl, rfl⟩
  have hmode : u.mdu.mode = s.mdu.mode := by simp [← hu, ← hr]
  obtain ⟨hmfe, hdrawn, hover, hin, hout, hflu, hstore⟩ := overdrawCheck_spec u (irmsOf s.mfe.sumI2 s.mfe.n)
  rw [hlatch.2.2.1, hrover.1] at hover hin hout
  rw [hlatch.2.2.2, hrover.2, hmode] at hin hout
  rw [hclose, hmfe, hlatch.1, hrmfe, hirms, hdrawn]
  refine ⟨rfl, by rw [hstore, hlatch.2.1, ← hr]; simp, fun hgood hfault => ?_, hover, hin, hout⟩
  have hlatched : u.latched .line = true := by
    rw [← hu, State.lineLatch, if_pos ⟨hgood, by rw [hrmfe]; exact hfault⟩]
    exact latch_latched r .line
  rw [State.latched, hflu]
  exact hlatched

/-- The first crossing leaves a session's line-loss timer (R142). -/
theorem lineChanged_settling (x : Session) : x.lineChanged .absent .settling = x := by cases x <;> rfl

/-- The sample with its place among the metering's orders: the meter reads it before or after (R121). -/
theorem takeMetering_eq (s : State) (v i : Int) (meterFirst : Bool) :
    ∃ u : State, (u = s ∨ u = s.meterSample v i) ∧
      (s.takeMetering v i meterFirst = (u.lineSample v i).keepSample v ∨
        s.takeMetering v i meterFirst = ((u.lineSample v i).keepSample v).meterSample v i) := by
  cases meterFirst
  · exact ⟨s, .inl rfl, .inr rfl⟩
  · exact ⟨s.meterSample v i, .inr rfl, .inl rfl⟩

/-- Settles O7: an accepted crossing closes the cycle begun at the one before it, and the first one closes none. -/
theorem crossingClosesCycle : Obligations.CrossingClosesCycle := by
  refine ⟨fun v i w old meterFirst s hruns hprev hw hv hv' hi hi' hacc hguard => ?_,
    fun v i w meterFirst s hruns hidle hprev hw hv hv' hi hi' hline hacc => ?_⟩
  · have hcross := crossing_of_sign (m := s.mfe) hprev hw hv
    generalize 250 * s.mfe.count + ((250 * -w) / (v - w)).toNat = tm at hcross hguard ⊢
    have haccepts : s.mfe.accepts tm = true := by
      simp [FrontEnd.accepts, hacc, crossingGuard, hguard]
    rw [exec_meteringSample hruns (by omega) hv' hi hi']
    obtain ⟨u, hu, htake⟩ := takeMetering_eq s v i meterFirst
    have humfe : u.mfe = s.mfe := by obtain rfl | rfl := hu <;> simp
    have hushe : u.she = s.she := by obtain rfl | rfl := hu <;> simp
    have humode : u.mdu.mode = s.mdu.mode := by obtain rfl | rfl := hu <;> simp
    have hurest : u.store = s.store ∧ u.pvt = s.pvt ∧ u.clock = s.clock ∧ u.pins = s.pins := by
      obtain rfl | rfl := hu <;> simp
    have hclose : u.lineSample v i = u.closeCycle old tm v i := by
      simp [State.lineSample, humfe, hcross, haccepts, hacc]
    obtain ⟨hmfe, hstore, hlatch, hover, hin, hout⟩ := closeCycle_spec u old tm v i
    rw [humfe] at hmfe hlatch
    rw [hushe] at hover hin hout
    rw [humode] at hin hout
    generalize hc : u.closeCycle old tm v i = c at hclose hmfe hstore hlatch hover hin hout
    have hcrest : c.pvt = s.pvt ∧ c.clock = s.clock ∧ c.pins = s.pins := by
      obtain ⟨-, hpvt, hclock, hpins⟩ := hurest
      rw [← hc]
      simp [hpvt, hclock, hpins]
    obtain ⟨t, ht, htmfe, htshe, htflu, htrest⟩ : ∃ t, s.takeMetering v i meterFirst = t ∧
        t.mfe = (c.keepSample v).mfe ∧ t.she = c.she ∧ t.flu = c.flu ∧
        (t.store = s.store ∧ t.pvt = s.pvt ∧ t.clock = s.clock ∧ t.pins = s.pins) := by
      rw [hclose] at htake
      refine ⟨_, rfl, ?_⟩
      obtain e | e := htake <;> simp [e, hstore, hurest.1, hcrest]
    have hjudge := judge_fields s.mfe.publish (periodInRange (tm - old)) (urmsInRange s.mfe.publish.urms)
    have hline := closed_line s.mfe old tm v i
    rw [hmfe] at hlatch hover hin hout
    refine ⟨t, congrArg _ ht, ?_⟩
    rw [State.keepSample, hmfe] at htmfe
    rw [htmfe, htshe, State.latched, htflu]
    exact ⟨rfl, rfl, rfl, congrArg (· + 1) hjudge.2.2.2.1, hjudge.1, hjudge.2.1, Nat.zero_add _, Nat.zero_add _, rfl,
      hline, hlatch, hover, hin, hout, hjudge.2.2.1, htrest⟩
  · have hcross := crossing_of_sign (m := s.mfe) hprev hw hv
    generalize 250 * s.mfe.count + ((250 * -w) / (v - w)).toNat = tm at hcross ⊢
    have hfirst : s.lineSample v i = { s with mfe := (s.mfe.beginCycle tm v i).enterLine .settling } := by
      simp only [State.lineSample, hcross, FrontEnd.accepts, hacc, if_true, State.firstCrossing, hline]
      rw [lineReport_bad (by simp [FrontEnd.enterLine]) (by simp [FrontEnd.enterLine])]
      simp [State.shareLine, State.overdrawAbsent, FrontEnd.enterLine, lineChanged_settling]
    rw [exec_meteringSample hruns (by omega) hv' hi hi', takeMetering_idle hidle (by rw [hfirst]; exact hidle), hfirst]
    simp [State.keepSample, FrontEnd.beginCycle, FrontEnd.enterLine, FrontEnd.addSample, FrontEnd.clearRms]

end Sys2Proof.Machine
end

section
/-! PROOF. The end of a session as its commands meet it: what departs, what the record's move leaves, and what the
insulation monitor and the bus keep (R139, R143, R146, R147). -/

namespace Sys2Proof.Machine

/-! ## The DORMANT entry test while the dormant timer runs -/

/-- While the dormant timer has not run out there is no entry into DORMANT (R173). -/
theorem dormantTest_unexpired {before t : State} (h : t.mdu.dormantTimer ≠ .expired) :
    State.dormantTest before t = t := by
  have hnot : t.dormantReady = false := by
    simp [State.dormantReady, beq_eq_false_iff_ne.2 h]
  simp [State.dormantTest, hnot]

/-! ## What leaves the sequencer alone -/

/-- The sequencer, the interface and the front end stay: the monitor changes its insulation state and its clearance
alone. -/
structure Holds (s t : State) : Prop where
  pbi : t.pbi = s.pbi
  mfe : t.mfe = s.mfe
  imon : t.imon = { s.imon with insulation := t.imon.insulation, clearance := t.imon.clearance }

theorem Holds.refl (s : State) : Holds s s := ⟨rfl, rfl, rfl⟩

theorem Holds.of_eq {s t : State} (hpbi : t.pbi = s.pbi) (hmfe : t.mfe = s.mfe) (himon : t.imon = s.imon) : Holds s t :=
  ⟨hpbi, hmfe, by rw [himon]⟩

theorem Holds.trans {s t u : State} (h : Holds s t) (h' : Holds t u) : Holds s u :=
  ⟨h'.pbi.trans h.pbi, h'.mfe.trans h.mfe, by rw [h'.imon, h.imon]⟩

theorem Holds.seq {s t : State} (h : Holds s t) : t.imon.seq = s.imon.seq := by rw [h.imon]

theorem holds_recompute (s : State) : Holds s s.recompute := .of_eq (by simp) (by simp) (by simp)

theorem holds_raiseFlag (s : State) (f : Flag) : Holds s (s.raiseFlag f) := .of_eq (by simp) (by simp) (by simp)

theorem holds_openingTest (s : State) : Holds s s.openingTest := .of_eq (by simp) (by simp) (by simp)

theorem holds_sessionDeparts (s : State) (reason : EndReason) : Holds s (s.sessionDeparts reason) :=
  .of_eq (by simp) (by simp) (by simp)

theorem holds_monitorIdle (s : State) : Holds s s.monitorIdle := by
  unfold State.monitorIdle
  split
  · exact ⟨by simp, by simp, by simp⟩
  · exact ⟨rfl, rfl, rfl⟩

theorem holds_returnToIdle (s : State) : Holds s s.returnToIdle := by
  obtain ⟨-, e⟩ | ⟨-, e⟩ := returnToIdle_cases s <;> rw [e]
  · have hidle : Holds s ({ s with slu.session := .idle }.monitorIdle) :=
      .trans (t := { s with slu.session := .idle }) (.of_eq rfl rfl rfl) (holds_monitorIdle _)
    exact hidle.trans (.of_eq (by simp) (by simp) (by simp))
  · exact .refl s

/-! ## The entry into PENDING (R137, R116) -/

/-- The entry into PENDING withdraws the clearance, so that its opening test fails (R116, R138). -/
theorem enterPending_eq (s : State) (id : Nat) : s.enterPending id = s.goPending id :=
  openingTest_of_not_mayOpen (s := s.goPending id) (by simp [State.mayOpen])

/-- A sequencer that is not WAITING is not prompted (R100). -/
theorem holds_goPending {s : State} (h : ∀ left, s.imon.seq ≠ .waiting left) (id : Nat) : Holds s (s.goPending id) := by
  unfold State.goPending State.monitorPending
  split
  · next left hq => exact absurd hq (by simpa using h left)
  · exact ⟨by simp, by simp, by simp⟩

/-- A WAITING sequencer takes the lesser of its time and a prompt delay, with one draw (R29, R100). -/
theorem goPending_waiting {s : State} {left : Nat} (h : s.imon.seq = .waiting left) (id : Nat) :
    (s.goPending id).pbi.random = (s.pbi.random * 25173 + 13849) % 65536 ∧
    (s.goPending id).imon.seq = .waiting (min left ((s.goPending id).pbi.random % 1001 * 1000)) := by
  have hw : ({ s with slu.session := .pending id pendingTime }.recompute).imon.seq = .waiting left := by simpa using h
  simp [State.goPending, State.monitorPending, h, State.draw, State.setSeq, State.promptDelay, nextRandom]

/-- The test of R147 at an entry into IDLE: nothing, or PENDING for the record's session. -/
theorem retest_cases (s : State) :
    s.retest = s ∨ ∃ r, s.pvt.record = some r ∧ s.slu.session.isIdle = true ∧
      (s.mdu.mode = .listening ∨ s.mdu.mode = .run) ∧ r.plugged = true ∧ r.session ≠ 0 ∧
      r.session ≠ s.pvt.halted ∧ s.retest = s.goPending r.session := by
  unfold State.retest
  split
  · next r hr =>
    obtain ⟨hidle, hmode, hplug, hzero, hhalt, e⟩ | e := offerSession_cases s r.plugged r.session
    · exact .inr ⟨r, hr, hidle, hmode, hplug, hzero, hhalt, e.trans (enterPending_eq s _)⟩
    · exact .inl e
  · exact .inl rfl

theorem goPending_claim (s : State) (id : Nat) : (s.goPending id).she.claim = 0 := by
  have hrecompute : ({ s with slu.session := .pending id pendingTime }.recompute).she.claim = 0 :=
    recompute_claim_closed rfl
  unfold State.goPending State.monitorPending
  split <;> simpa using hrecompute

/-! ## The entry into IDLE from ENDED (R146, R147) -/

/-- An ENDED session made IDLE, before the test of R147. -/
def State.idled (s : State) : State := ({ s with slu.session := .idle }.meterIdles).monitorIdle.recompute.applyDuty

theorem idleAfterEnd_eq (s : State) : s.idleAfterEnd = s.idled.retest := rfl

@[simp] theorem State.idled_rest (s : State) :
    s.idled.pins = s.pins ∧ s.idled.mdu = s.mdu ∧ s.idled.mfe = s.mfe ∧ s.idled.pbi = s.pbi ∧ s.idled.pvt = s.pvt ∧
    s.idled.clock = s.clock ∧ s.idled.emt = Meter.start s.emt.qraw ∧ s.idled.slu = { s.slu with session := .idle } ∧
    s.idled.flu = s.flu ∧ s.idled.store = s.store ∧ s.idled.imon.clearance = false ∧ s.idled.imon.seq = s.imon.seq := by
  have hclear : ∀ u : State, u.monitorIdle.imon.clearance = false ∧ u.monitorIdle.imon.seq = u.imon.seq := by
    intro u
    unfold State.monitorIdle
    split <;> simp
  simp [State.idled, hclear, State.meterIdles]

theorem holds_idled (s : State) : Holds s s.idled := by
  have hidle : Holds s ({ s with slu.session := .idle }.meterIdles).monitorIdle :=
    .trans (t := { s with slu.session := .idle }.meterIdles) (.of_eq (by simp) (by simp) (by simp))
        (holds_monitorIdle _)
  exact hidle.trans (.of_eq (by simp) (by simp) (by simp [State.idled]))

theorem idled_claim (s : State) : s.idled.she.claim = 0 := by
  simp only [State.idled, State.applyDuty_rest]
  exact recompute_claim_closed (by simp [Session.isOpen])

/-- What an entry into IDLE from ENDED leaves, whether or not the record's session is offered again (R146, R147). -/
theorem idleAfterEnd_spec (s : State) :
    s.idleAfterEnd.slu.buffer = s.slu.buffer ∧ s.idleAfterEnd.slu.table = s.slu.table ∧
    s.idleAfterEnd.emt = Meter.start s.emt.qraw ∧ s.idleAfterEnd.she.claim = 0 ∧
    s.idleAfterEnd.imon.clearance = false ∧
    (s.idleAfterEnd.slu.session = .idle ∨ ∃ id, s.idleAfterEnd.slu.session = .pending id pendingTime) := by
  rw [idleAfterEnd_eq]
  obtain e | ⟨r, -, -, -, -, -, -, e⟩ := retest_cases s.idled <;> rw [e]
  · simp [idled_claim]
  · exact ⟨by simp, by simp, by simp, goPending_claim _ _, by simp, .inr ⟨r.session, by simp⟩⟩

/-- A sequencer that is not WAITING stays at an entry into IDLE (R100). -/
theorem holds_idleAfterEnd {s : State} (h : ∀ left, s.imon.seq ≠ .waiting left) : Holds s s.idleAfterEnd := by
  rw [idleAfterEnd_eq]
  obtain e | ⟨r, -, -, -, -, -, -, e⟩ := retest_cases s.idled <;> rw [e]
  · exact holds_idled s
  · exact (holds_idled s).trans (holds_goPending (by simpa using h) _)

/-! ## The move of the record into the buffer (R146) -/

/-- The record of an ENDED session in the buffer, or discarded with LOG latched, before the entry into IDLE. -/
inductive Recorded (r : OpenRecord) (reason : EndReason) (closed : Stamp) (s : State) : State → Prop where
  | taken (h : newestSeq s.slu.table < lastSequence) :
      Recorded r reason closed s (s.startWrite (s.completeRecord r reason closed s.nextSequence) none)
  | exhausted (h : lastSequence ≤ newestSeq s.slu.table) : Recorded r reason closed s s.latchLog

/-- The move, step by step: the record waits while the buffer is occupied, and else the session goes to IDLE. -/
theorem moveToBuffer_ended {s : State} {r : OpenRecord} {reason : EndReason} {closed : Stamp}
    (he : s.slu.session = .ended r reason closed) :
    (∃ b, s.slu.buffer = some b ∧ s.moveToBuffer = s) ∨
    (s.slu.buffer = none ∧ ∃ u, Recorded r reason closed s u ∧ s.moveToBuffer = u.idleAfterEnd) := by
  cases hb : s.slu.buffer with
  | some b => exact .inl ⟨b, rfl, moveToBuffer_occupied hb⟩
  | none =>
    refine .inr ⟨rfl, ?_⟩
    by_cases hn : newestSeq s.slu.table < lastSequence
    · exact ⟨_, .taken hn, moveToBuffer_free he hb hn⟩
    · exact ⟨_, .exhausted (Nat.not_lt.1 hn), by simp [State.moveToBuffer, he, hb, Nat.not_lt.1 hn]⟩

theorem holds_latchLog (s : State) : Holds s s.latchLog := .of_eq (by simp) (by simp) (by simp)

theorem Recorded.holds {r : OpenRecord} {reason : EndReason} {closed : Stamp} {s u : State}
    (h : Recorded r reason closed s u) : Holds s u := by
  cases h with
  | taken => exact .of_eq (by simp) (by simp) (by simp)
  | exhausted => exact holds_latchLog s

/-- The flags but LOG stay at the move of a record (R146). -/
theorem Recorded.latched {r : OpenRecord} {reason : EndReason} {closed : Stamp} {s u : State}
    (h : Recorded r reason closed s u) {f : Flag} (hf : f ≠ .log) : u.latched f = s.latched f := by
  cases h with
  | taken => rfl
  | exhausted =>
    unfold State.latchLog
    split
    · rfl
    · simp [raiseFlag_latched, hf]

/-! ## The end of an OPEN session (R143) -/

theorem sessionDeparts_opened {s : State} {o : OpenRecord} {left : Option Nat} (ho : s.slu.session = .opened o left)
    (reason : EndReason) :
    (s.sessionDeparts reason).slu = { s.slu with session := .ended o reason s.clock.stamp } ∧
    (s.sessionDeparts reason).emt = s.emt.departed ∧ (s.sessionDeparts reason).she.claim = 0 ∧
    (s.sessionDeparts reason).she.demand = 0 ∧ (s.sessionDeparts reason).she.hold = false ∧
    (s.sessionDeparts reason).she.overdrawTimer = s.she.overdrawTimer ∧
    (s.sessionDeparts reason).she.overdraw = s.she.overdraw := by
  have hclaim : (({ s with slu.session := .ended o reason s.clock.stamp }.meterDeparts).applyDuty.shareLeavesOpen
      ).she.claim = 0 := recompute_claim_closed (by simp [Session.isOpen])
  simp only [State.sessionDeparts, ho]
  exact ⟨by simp, by simp [State.meterDeparts, State.shareLeavesOpen], hclaim, by simp [State.shareLeavesOpen],
    by simp [State.shareLeavesOpen], by simp [State.shareLeavesOpen], by simp [State.shareLeavesOpen]⟩

/-- The end of an OPEN session, step by step: it departs, and its record waits in ENDED or moves (R143, R146). -/
theorem endSession_steps {s : State} {o : OpenRecord} {left : Option Nat} (ho : s.slu.session = .opened o left)
    (reason : EndReason) :
    (∃ b, s.slu.buffer = some b ∧ s.endSession reason = s.sessionDeparts reason) ∨
    (s.slu.buffer = none ∧ ∃ u, Recorded o reason s.clock.stamp (s.sessionDeparts reason) u ∧
      s.endSession reason = u.idleAfterEnd) := by
  have hend : s.endSession reason = (s.sessionDeparts reason).moveToBuffer := by
    simp [State.endSession, State.sessionDeparts, ho]
  obtain ⟨hslu, -⟩ := sessionDeparts_opened ho reason
  rw [hend]
  simpa only [hslu] using moveToBuffer_ended (s := s.sessionDeparts reason) (by rw [hslu])

theorem endSession_closed {s : State} (h : s.slu.session.isOpen = false) (reason : EndReason) :
    s.endSession reason = s := by
  obtain ⟨o, left, ho, -⟩ | ⟨-, e⟩ := endSession_cases s reason
  · simp [ho, Session.isOpen] at h
  · exact e

theorem opened_of_isOpen {x : Session} (h : x.isOpen = true) : ∃ o left, x = .opened o left := by
  cases x <;> simp_all [Session.isOpen]

/-- After an end no session is OPEN, and a session that is PENDING then has no clearance (R143, R147). -/
theorem endSession_isOpen (s : State) (reason : EndReason) : (s.endSession reason).slu.session.isOpen = false := by
  cases hopen : s.slu.session.isOpen
  · rw [endSession_closed hopen, hopen]
  · obtain ⟨o, left, ho⟩ := opened_of_isOpen hopen
    obtain ⟨b, -, e⟩ | ⟨-, u, -, e⟩ := endSession_steps ho reason <;> rw [e]
    · simp
    · obtain ⟨-, -, -, -, -, h | ⟨id, h⟩⟩ := idleAfterEnd_spec u <;> rw [h] <;> rfl

theorem endSession_pending_clearance {s : State} {reason : EndReason} (hopen : s.slu.session.isOpen = true)
    (hp : (s.endSession reason).slu.session.isPending = true) : (s.endSession reason).imon.clearance = false := by
  obtain ⟨o, left, ho⟩ := opened_of_isOpen hopen
  obtain ⟨b, -, e⟩ | ⟨-, u, -, e⟩ := endSession_steps ho reason
  · have hpend : s.slu.session.isPending = true := by simpa [e] using hp
    rw [ho] at hpend
    cases hpend
  · rw [e]
    exact (idleAfterEnd_spec u).2.2.2.2.1

/-- Nothing is claimed after the end of an OPEN session (R79, R81). -/
theorem endSession_claim {s : State} (hopen : s.slu.session.isOpen = true) (reason : EndReason) :
    (s.endSession reason).she.claim = 0 := by
  obtain ⟨o, left, ho⟩ := opened_of_isOpen hopen
  obtain ⟨b, -, e⟩ | ⟨-, u, -, e⟩ := endSession_steps ho reason <;> rw [e]
  · exact (sessionDeparts_opened ho reason).2.2.1
  · exact (idleAfterEnd_spec u).2.2.2.1

/-- The flags but LOG stay at an end (R146). -/
theorem endSession_latched (s : State) (reason : EndReason) {f : Flag} (hf : f ≠ .log) :
    (s.endSession reason).latched f = s.latched f := by
  cases hopen : s.slu.session.isOpen
  · rw [endSession_closed hopen]
  · obtain ⟨o, left, ho⟩ := opened_of_isOpen hopen
    obtain ⟨b, -, e⟩ | ⟨-, u, hu, e⟩ := endSession_steps ho reason <;> rw [e]
    · simp [State.latched]
    · rw [State.latched, State.idleAfterEnd_rest u |>.2.2.2.2.1]
      exact (hu.latched hf).trans (by simp [State.latched])

/-- A sequencer that is not WAITING stays at an end (R100). -/
theorem holds_endSession {s : State} (h : ∀ left, s.imon.seq ≠ .waiting left) (reason : EndReason) :
    Holds s (s.endSession reason) := by
  cases hopen : s.slu.session.isOpen
  · rw [endSession_closed hopen]
    exact .refl s
  · obtain ⟨o, left, ho⟩ := opened_of_isOpen hopen
    obtain ⟨b, -, e⟩ | ⟨-, u, hu, e⟩ := endSession_steps ho reason <;> rw [e]
    · exact holds_sessionDeparts s reason
    · have hsu : Holds s u := (holds_sessionDeparts s reason).trans hu.holds
      exact hsu.trans (holds_idleAfterEnd (by simpa only [hsu.seq] using h))

/-- Where the record of an ended session is (R143, R146). -/
theorem endSession_endedWith {s : State} {o : OpenRecord} {left : Option Nat} (ho : s.slu.session = .opened o left)
    (reason : EndReason) : EndedWith o reason s (s.endSession reason) := by
  refine ⟨endSession_isOpen s reason, fun b hb => ?_, fun hb hn => ?_⟩
  · obtain ⟨b', -, e⟩ | ⟨hnone, -⟩ := endSession_steps ho reason
    · exact ⟨o, s.clock.stamp, by rw [e, (sessionDeparts_opened ho reason).1], rfl, rfl⟩
    · simp [hb] at hnone
  · obtain ⟨b', hb', -⟩ | ⟨-, u, hu, e⟩ := endSession_steps ho reason
    · simp [hb] at hb'
    · rw [e, (idleAfterEnd_spec u).1]
      cases hu with
      | taken => exact ⟨_, rfl, rfl, rfl, by simp [State.completeRecord, State.nextSequence]⟩
      | exhausted hfull =>
        simp only [State.sessionDeparts_rest, lastSequence] at hfull
        omega

end Sys2Proof.Machine
end

section
/-! PROOF. The timers that end a session, the store's writes, and the own id heard (O29, O41, O43 to O45). -/

namespace Sys2Proof.Machine

/-! ## The loss of the contract (R49) -/

theorem returnToIdle_claim_zero {s : State} (h : s.she.claim = 0) : s.returnToIdle.she.claim = 0 := by
  obtain ⟨-, e⟩ | ⟨-, e⟩ := returnToIdle_cases s <;> rw [e]
  · simpa using recompute_claim_zero (monitorIdle_claim_zero (s := { s with slu.session := .idle }) h)
  · exact h

/-- With no record an entry into IDLE offers no session (R147). -/
theorem idleAfterEnd_unrecorded {s : State} (h : s.pvt.record = none) : s.idleAfterEnd.slu.session = .idle := by
  rw [idleAfterEnd_eq]
  obtain e | ⟨r, hr, -⟩ := retest_cases s.idled
  · rw [e]
    simp
  · simp [h] at hr

theorem Recorded.pvt {r : OpenRecord} {reason : EndReason} {closed : Stamp} {s u : State}
    (h : Recorded r reason closed s u) : u.pvt = s.pvt := by
  cases h <;> simp

/-- An event that stops the session leaves none OPEN or PENDING when no record offers one again (R139, R141). -/
theorem sessionStops_unrecorded {s : State} (hm : s.mdu.mode.handlesSessions = true) (hr : s.pvt.record = none)
    (reason : EndReason) :
    (s.sessionStops reason).slu.session.isOpen = false ∧ (s.sessionStops reason).slu.session.isPending = false := by
  cases hs : s.slu.session with
  | pending id left =>
    have hp : s.slu.session.isPending = true := by rw [hs]; rfl
    rw [sessionStops_pending hm hp, returnToIdle_slu hp]
    exact ⟨rfl, rfl⟩
  | opened o left =>
    rw [sessionStops_opened hm hs]
    refine ⟨endSession_isOpen s reason, ?_⟩
    obtain ⟨b, -, e⟩ | ⟨-, u, hu, e⟩ := endSession_steps hs reason <;> rw [e]
    · rw [(sessionDeparts_opened hs reason).1]
      rfl
    · rw [idleAfterEnd_unrecorded (by rw [hu.pvt]; simpa using hr)]
      rfl
  | _ => simp [State.sessionStops, hm, hs, Session.isOpen, Session.isPending]

theorem sessionStops_claim_zero {s : State} (h : s.she.claim = 0) (reason : EndReason) :
    (s.sessionStops reason).she.claim = 0 := by
  unfold State.sessionStops
  split
  · split
    · exact returnToIdle_claim_zero h
    · next hs => exact endSession_claim (by rw [hs]; rfl) reason
    · exact h
  · exact h

/-- Settles O41: without a record the own limit is 0 and no session is offered again. -/
theorem contractLoss : Obligations.ContractLoss := by
  intro left s hloss hdorm
  refine ⟨fun h => congrArg Host.Outcome.next (if_neg (by simp [hasRun, hloss, h, lossTime])), fun h => ?_⟩
  have hmdu : s.loseContract.mdu = s.mdu := by simp
  have hexec : exec .contractLoss s = .next s.loseContract := by
    refine congrArg Host.Outcome.next ((if_pos (by simp [hasRun, hloss, h, lossTime])).trans ?_)
    exact dormantTest_unexpired (by rwa [hmdu])
  have hclaim : ({ s with pvt.record := none, pvt.lossTimer := none } : State).recompute.she.claim = 0 :=
    recompute_claim_of_limit (by simp [State.ownLimit])
  refine ⟨_, hexec, by simp [State.loseContract], sessionStops_claim_zero hclaim _, fun hmode => ?_, by simp, hmdu,
    by simp⟩
  refine sessionStops_unrecorded ?_ (by simp) _
  obtain h | h | h := hmode <;> simp [h, Mode.handlesSessions]

/-! ## Overdraw (R90, R91) -/

/-- The outputs of the charger off, with no session OPEN, no demand and no duty in force (R74, R68, R88). -/
structure NoCharge (s : State) : Prop where
  closed : s.slu.session.isOpen = false
  demand : s.she.demand = 0
  idcSet : s.she.idcSet = 0
  chgEn : s.she.chgEn = false
  iRef : s.she.iRef = 0
  hold : s.she.hold = false
  inForce : s.thu.inForce = 0

theorem NoCharge.congr {s t : State} (h : NoCharge s) (hslu : t.slu.session.isOpen = false) (hshe : t.she = s.she)
    (hthu : t.thu.inForce = s.thu.inForce) : NoCharge t :=
  ⟨hslu, by rw [hshe, h.demand], by rw [hshe, h.idcSet], by rw [hshe, h.chgEn], by rw [hshe, h.iRef],
    by rw [hshe, h.hold], by rw [hthu, h.inForce]⟩

theorem NoCharge.applyDuty {s : State} (h : NoCharge s) : NoCharge s.applyDuty :=
  ⟨by simpa using h.closed, by simp [h.demand], by simp [h.idcSet], by simp [h.chgEn], by simp [h.iRef],
    by simp [h.hold], by simp [State.gatedDuty, h.closed]⟩

/-- A recomputation with no session OPEN takes the claim to 0 and leaves the outputs off (R79, R85). -/
theorem NoCharge.recompute {s : State} (h : NoCharge s) : NoCharge s.recompute := by
  obtain ⟨-, e⟩ | ⟨-, e⟩ := recompute_cases s <;> rw [e]
  · exact h
  · rw [computedClaim_barred (claimBarred_of_closed h.closed)]
    obtain ⟨-, -, hidc⟩ := outputs_of_undrawn (s := s.setClaim 0) (by simp)
    exact ⟨by simpa using h.closed, by simp [convert_spec, h.demand], by simp [convert_spec, hidc],
      by simp [convert_spec, hidc], by simp [convert_spec, hidc], by simp [convert_spec, h.hold],
      by simp [State.convert, State.gatedDuty, h.closed]⟩

theorem NoCharge.raiseFlag {s : State} (h : NoCharge s) (f : Flag) : NoCharge (s.raiseFlag f) :=
  NoCharge.recompute (h.congr (by simpa using h.closed) (by simp) (by simp))

theorem NoCharge.monitorIdle {s : State} (h : NoCharge s) : NoCharge s.monitorIdle := by
  unfold State.monitorIdle
  split
  · exact NoCharge.recompute (h.congr h.closed rfl rfl)
  · exact h.congr h.closed rfl rfl

theorem NoCharge.goPending {s : State} (h : NoCharge s) (id : Nat) : NoCharge (s.goPending id) := by
  have hpend : NoCharge ({ s with slu.session := .pending id pendingTime } : State).recompute :=
    NoCharge.recompute (h.congr rfl rfl rfl)
  unfold State.goPending State.monitorPending
  split <;> exact hpend.congr (by simp [Session.isOpen]) (by simp) (by simp)

theorem NoCharge.idleAfterEnd {s : State} (h : NoCharge s) : NoCharge s.idleAfterEnd := by
  have hidle : NoCharge ({ s with slu.session := .idle }.meterIdles) := h.congr rfl (by simp) (by simp)
  have hidled : NoCharge s.idled := hidle.monitorIdle.recompute.applyDuty
  rw [idleAfterEnd_eq]
  obtain e | ⟨r, -, -, -, -, -, -, e⟩ := retest_cases s.idled <;> rw [e]
  · exact hidled
  · exact hidled.goPending _

theorem NoCharge.recorded {r : OpenRecord} {reason : EndReason} {closed : Stamp} {s u : State} (hs : NoCharge s)
    (h : Recorded r reason closed s u) : NoCharge u := by
  cases h with
  | taken => exact hs.congr (by simpa using hs.closed) (by simp) (by simp)
  | exhausted =>
    unfold State.latchLog
    split
    · exact hs
    · exact hs.raiseFlag _

/-- The departure of the session with its outputs off already (R91, R143). -/
theorem noCharge_sessionDeparts {s : State} (hopen : s.slu.session.isOpen = true) (hidc : s.she.idcSet = 0)
    (hen : s.she.chgEn = false) (href : s.she.iRef = 0) (reason : EndReason) : NoCharge (s.sessionDeparts reason) := by
  obtain ⟨o, left, ho⟩ := opened_of_isOpen hopen
  simp only [State.sessionDeparts, ho]
  refine NoCharge.recompute ⟨?_, ?_, ?_, ?_, ?_, ?_, ?_⟩ <;> simp [Session.isOpen, State.gatedDuty, hidc, hen, href]

theorem noCharge_endSession {s : State} (hopen : s.slu.session.isOpen = true) (hidc : s.she.idcSet = 0)
    (hen : s.she.chgEn = false) (href : s.she.iRef = 0) (reason : EndReason) : NoCharge (s.endSession reason) := by
  obtain ⟨o, left, ho⟩ := opened_of_isOpen hopen
  have hdeparts := noCharge_sessionDeparts hopen hidc hen href reason
  obtain ⟨b, -, e⟩ | ⟨-, u, hu, e⟩ := endSession_steps ho reason <;> rw [e]
  · exact hdeparts
  · exact (hdeparts.recorded hu).idleAfterEnd

/-! ### The overdraw check at an end -/

theorem goPending_overdraw (s : State) (id : Nat) :
    (s.goPending id).she.overdrawTimer = s.she.overdrawTimer ∧ (s.goPending id).she.overdraw = s.she.overdraw := by
  unfold State.goPending State.monitorPending
  split <;> simp

theorem idleAfterEnd_overdraw (s : State) :
    s.idleAfterEnd.she.overdrawTimer = s.she.overdrawTimer ∧ s.idleAfterEnd.she.overdraw = s.she.overdraw := by
  have hidled : s.idled.she.overdrawTimer = s.she.overdrawTimer ∧ s.idled.she.overdraw = s.she.overdraw := by
    simp [State.idled]
  rw [idleAfterEnd_eq]
  obtain e | ⟨r, -, -, -, -, -, -, e⟩ := retest_cases s.idled <;> rw [e]
  · exact hidled
  · rwa [(goPending_overdraw _ _).1, (goPending_overdraw _ _).2]

/-- An end leaves the overdraw condition and its timer (R89, R92). -/
theorem endSession_overdraw (s : State) (reason : EndReason) :
    (s.endSession reason).she.overdrawTimer = s.she.overdrawTimer ∧
    (s.endSession reason).she.overdraw = s.she.overdraw := by
  cases hopen : s.slu.session.isOpen
  · rw [endSession_closed hopen]
    exact ⟨rfl, rfl⟩
  · obtain ⟨o, left, ho⟩ := opened_of_isOpen hopen
    obtain ⟨-, -, -, -, -, htimer, hover⟩ := sessionDeparts_opened ho reason
    obtain ⟨b, -, e⟩ | ⟨-, u, hu, e⟩ := endSession_steps ho reason <;> rw [e]
    · exact ⟨htimer, hover⟩
    · have hushe : u.she.overdrawTimer = s.she.overdrawTimer ∧ u.she.overdraw = s.she.overdraw := by
        cases hu with
        | taken => simp [htimer, hover]
        | exhausted =>
          unfold State.latchLog State.raiseFlag
          split <;> simp [htimer, hover]
      rwa [(idleAfterEnd_overdraw u).1, (idleAfterEnd_overdraw u).2]

/-- The latch of a flag that ends no session leaves the overdraw check, the modes and the session's presence (R156). -/
theorem latchOverdraw_fields (s : State) :
    (s.latch .overdraw).mdu = s.mdu ∧ (s.latch .overdraw).she.overdrawTimer = s.she.overdrawTimer ∧
    (s.latch .overdraw).she.overdraw = s.she.overdraw ∧
    (s.slu.session.isOpen = true → (s.latch .overdraw).slu.session.isOpen = true) := by
  have hkeep : ∀ u : State, u.slu.session.isOpen = true → u.openingTest = u := fun u hu =>
    openingTest_of_not_pending (by cases hs : u.slu.session <;> simp_all [Session.isOpen, Session.isPending])
  have hraise : s.slu.session.isOpen = true → (s.raiseFlag .overdraw).slu.session.isOpen = true := by
    intro h
    simpa using h
  obtain e | e | e := latch_cases (f := .overdraw) (.inl rfl) (by decide) s
  · simp [e]
  · rw [e]
    exact ⟨by simp, by simp [State.raiseFlag], by simp [State.raiseFlag], hraise⟩
  · refine ⟨by simp [e], by simp [e, State.raiseFlag], by simp [e, State.raiseFlag], fun h => ?_⟩
    rw [e, hkeep _ (hraise h)]
    exact hraise h

/-- Settles O43: the hold takes the setpoint to 0, and the end of the session keeps it there. -/
theorem overdrawEvent : Obligations.OverdrawEvent := by
  intro left s htimer hleft hdorm
  generalize hu : State.latch .overdraw { s with she.overdrawTimer := none, she.overdraw := true } = u
  have hlatched : u.latched .overdraw = true := by rw [← hu]; exact latch_latched _ _
  obtain ⟨-, hutimer, huover, huopen⟩ := latchOverdraw_fields { s with she.overdrawTimer := none, she.overdraw := true }
  rw [hu] at hutimer huover huopen
  have hurest : u.mdu = s.mdu ∧ u.pvt = s.pvt ∧ u.clock = s.clock ∧ u.pins = s.pins := by simp [← hu]
  have hheld : u.overdrawHold.mdu = s.mdu ∧ u.overdrawHold.pvt = s.pvt ∧ u.overdrawHold.clock = s.clock ∧
      u.overdrawHold.pins = s.pins := by
    unfold State.overdrawHold
    split <;> simp [hurest]
  have hexec : exec .overdrawTimerExpiry s = .next u.overdrawHold := by
    refine congrArg Host.Outcome.next ((if_pos (by simp [hasRun, htimer, overdrawTime, hleft])).trans ?_)
    rw [hu]
    exact dormantTest_unexpired (by rwa [hheld.1])
  refine ⟨_, hexec, ?_⟩
  have hconvert : ({ u with she.hold := true } : State).convert.she.idcSet = 0 ∧
      ({ u with she.hold := true } : State).convert.she.chgEn = false ∧
      ({ u with she.hold := true } : State).convert.she.iRef = 0 := by
    simp [convert_spec, State.idcNow, setpoint]
  cases hopen : u.slu.session.isOpen
  · have hstay : u.overdrawHold = u := by simp [State.overdrawHold, hopen]
    rw [hstay]
    refine ⟨hutimer, huover, hlatched, fun h => ?_, hurest⟩
    rw [huopen h] at hopen
    cases hopen
  · have hends : u.overdrawHold = ({ u with she.hold := true } : State).convert.endSession .overdraw := by
      simp [State.overdrawHold, hopen]
    have hopen' : ({ u with she.hold := true } : State).convert.slu.session.isOpen = true := by simpa using hopen
    obtain ⟨hidc, hen, href⟩ := hconvert
    have hno := noCharge_endSession hopen' hidc hen href .overdraw
    obtain ⟨htimer', hover'⟩ := endSession_overdraw ({ u with she.hold := true } : State).convert .overdraw
    rw [hends] at hheld ⊢
    refine ⟨htimer'.trans (by simpa [convert_spec] using hutimer), hover'.trans (by simpa [convert_spec] using huover),
      ?_, fun _ => ⟨hno.closed, endSession_claim hopen' _, hno.demand, hno.idcSet, hno.chgEn, hno.iRef, hno.hold,
        hno.inForce⟩, hheld⟩
    rw [endSession_latched _ _ (by decide)]
    simpa [State.latched] using hlatched

end Sys2Proof.Machine
end

section
/-! PROOF. The closing buffer's target, the session's timers and the store's writes (O44, O45). -/

namespace Sys2Proof.Machine

/-! ## The target of a write (R149, R150) -/

theorem allSlots_getElem (k : Fin 16) : allSlots[k.val]? = some k := by revert k; decide

/-- The first slot that passes a test: it passes, and none below it does. -/
theorem find_allSlots {p : Fin 16 → Bool} {k : Fin 16} (h : allSlots.find? p = some k) :
    p k = true ∧ ∀ j < k, p j = false := by
  obtain ⟨hk, i, hi, hget, hbefore⟩ := List.find?_eq_some_iff_getElem.1 h
  have hval : i = k.val := by
    have hlen : i < 16 := hi
    have hsame := allSlots_getElem ⟨i, hlen⟩
    rw [List.getElem?_eq_getElem hi, hget] at hsame
    rw [Option.some.inj hsame]
  refine ⟨hk, fun j hj => ?_⟩
  have hji : j.val < i := by omega
  have hj' := hbefore j.val hji
  have hget' : allSlots[j.val] = j := by
    have := allSlots_getElem j
    rw [List.getElem?_eq_getElem (by omega)] at this
    exact Option.some.inj this
  simpa [hget'] using hj'

theorem foldl_min_mem (l : List Nat) (a : Nat) : l.foldl min a = a ∨ l.foldl min a ∈ l := by
  induction l generalizing a with
  | nil => exact .inl rfl
  | cons b rest ih =>
    rw [List.foldl_cons]
    obtain h | h := ih (min a b)
    · rw [h]
      by_cases hab : a ≤ b
      · exact .inl (min_eq_left hab)
      · exact .inr (by simp [min_eq_right (Nat.le_of_not_le hab)])
    · exact .inr (List.mem_cons_of_mem _ h)

theorem foldl_min_le (l : List Nat) (a : Nat) : l.foldl min a ≤ a ∧ ∀ n ∈ l, l.foldl min a ≤ n := by
  induction l generalizing a with
  | nil => simp
  | cons b rest ih =>
    rw [List.foldl_cons]
    obtain ⟨hle, hall⟩ := ih (min a b)
    refine ⟨hle.trans (min_le_left a b), fun n hn => ?_⟩
    obtain rfl | hn := List.mem_cons.1 hn
    · exact hle.trans (min_le_right a n)
    · exact hall n hn

/-- The oldest sequence is held, and no held one is below it (R149). -/
theorem oldestSeq_spec {table : List (Option Nat)} (h : heldSequences table ≠ []) :
    oldestSeq table ∈ heldSequences table ∧ ∀ n ∈ heldSequences table, oldestSeq table ≤ n := by
  unfold oldestSeq
  split
  · next hnil => exact absurd hnil h
  · next x rest hcons =>
    obtain ⟨hle, hall⟩ := foldl_min_le rest x
    refine ⟨?_, fun n hn => ?_⟩
    · rw [hcons]
      obtain hx | hm := foldl_min_mem rest x
      · rw [hx]; exact List.mem_cons_self
      · exact List.mem_cons_of_mem _ hm
    · rw [hcons] at hn
      obtain rfl | hn := List.mem_cons.1 hn
      · exact hle
      · exact hall n hn

theorem slotOf_of_held {table : List (Option Nat)} (hlen : table.length = 16) {n : Nat}
    (h : n ∈ heldSequences table) : ∃ k, slotOf table n = some k ∧ slotEntry table k = some n := by
  obtain ⟨slot, hslot⟩ := (mem_heldSequences hlen).1 h
  cases hfind : slotOf table n with
  | none =>
    rw [slotOf, List.find?_eq_none] at hfind
    exact absurd (hfind slot (mem_allSlots slot)) (by simp [hslot])
  | some k => exact ⟨k, rfl, by simpa using List.find?_some hfind⟩

/-- The target of a write: the lowest empty slot but the failed one, and else the slot of the oldest record (R149,
R150). -/
theorem targetOf_spec {table : List (Option Nat)} (hlen : table.length = 16) (failed : Option (Fin 16)) :
    (slotEntry table (targetOf table failed) = none ∧ failed ≠ some (targetOf table failed) ∧
      ∀ j < targetOf table failed, slotEntry table j ≠ none ∨ failed = some j) ∨
    ((∀ j, slotEntry table j ≠ none ∨ failed = some j) ∧
      ∃ n, slotEntry table (targetOf table failed) = some n ∧ ∀ j m, slotEntry table j = some m → n ≤ m) := by
  unfold targetOf
  cases hempty : emptySlotOf table failed with
  | some k =>
    obtain ⟨hk, hbelow⟩ := find_allSlots hempty
    simp only [Bool.and_eq_true, Option.isNone_iff_eq_none, bne_iff_ne] at hk
    refine .inl ⟨hk.1, hk.2, fun j hj => ?_⟩
    have hj := hbelow j hj
    simp only [Bool.and_eq_false_iff, Option.isNone_eq_false_iff, bne_eq_false_iff_eq] at hj
    exact hj.imp_left fun h hn => by simp [hn] at h
  | none =>
    have hfull : ∀ j, slotEntry table j ≠ none ∨ failed = some j := by
      intro j
      have hj := List.find?_eq_none.1 hempty j (mem_allSlots j)
      simp only [Bool.and_eq_true, Option.isNone_iff_eq_none, bne_iff_ne, not_and_or, not_not] at hj
      exact hj
    have hheld : heldSequences table ≠ [] := by
      intro hnil
      have hnone : ∀ j, slotEntry table j = none := fun j => by
        cases hj : slotEntry table j with
        | none => rfl
        | some n => simpa [hnil] using (mem_heldSequences hlen).2 ⟨j, hj⟩
      have h0 := (hfull 0).resolve_left (by simp [hnone])
      have h1 := (hfull 1).resolve_left (by simp [hnone])
      exact absurd (h0.symm.trans h1) (by decide)
    obtain ⟨hmem, hleast⟩ := oldestSeq_spec hheld
    obtain ⟨k, hk, hentry⟩ := slotOf_of_held hlen hmem
    refine .inr ⟨hfull, oldestSeq table, ?_, fun j m hm => hleast m ((mem_heldSequences hlen).2 ⟨j, hm⟩)⟩
    simp only [hk, Option.getD_some]
    exact hentry

/-! ## The meter at the end of a session (R129, R132) -/

theorem offerPeak_after (peak : Option Peak) (i : Interval) (watts : Nat) :
    PeakAfter peak i watts (offerPeak peak i watts) := by
  cases peak <;> rfl

theorem departed_peak {m : Meter} {i : Interval} (h : m.interval = some i) :
    PeakAfter m.peak i m.count m.departed.peak := by
  simp only [Meter.departed, Meter.peakAfter, h]
  exact offerPeak_after _ _ _

/-- The record of a session bears the totals of the meter that has left it (R134, R144). -/
theorem completeRecord_departed {d : State} {m : Meter} (h : d.emt = m.departed) (r : OpenRecord) (reason : EndReason)
    (closed : Stamp) (seq : Nat) :
    (d.completeRecord r reason closed seq).imp0 = m.imp0 ∧ (d.completeRecord r reason closed seq).imp1 = m.imp1 ∧
    (d.completeRecord r reason closed seq).imp2 = m.imp2 ∧ (d.completeRecord r reason closed seq).imp3 = m.imp3 ∧
    (d.completeRecord r reason closed seq).exp = m.exp ∧
    (d.completeRecord r reason closed seq).heat = min m.heatCount (m.imp0 + m.imp1 + m.imp2 + m.imp3) ∧
    (d.completeRecord r reason closed seq).peak = m.departed.peak := by
  simp [State.completeRecord, h, Meter.departed, Meter.importSum]

/-! ## The pending and the line-loss timer (R139, R142) -/

/-- Settles the first part of O44. -/
theorem pendingTimer_returns {id left : Nat} {s : State} (hs : s.slu.session = .pending id left)
    (hleft : left < 60000000) (hdorm : s.mdu.dormantTimer ≠ .expired) :
    exec .pendingTimerExpiry s = .next s.returnToIdle ∧
    s.returnToIdle.slu = { s.slu with session := .idle } ∧ s.returnToIdle.imon.clearance = false := by
  have hp : s.slu.session.isPending = true := by rw [hs]; rfl
  refine ⟨?_, returnToIdle_slu hp, ?_⟩
  · refine congrArg Host.Outcome.next ?_
    simp only [hs, pendingTime, hleft, if_true]
    exact dormantTest_unexpired (by simpa using hdorm)
  · obtain ⟨-, e⟩ | ⟨hnot, -⟩ := returnToIdle_cases s
    · rw [e, State.monitorIdle]
      split <;> simp
    · simp [hp] at hnot

theorem exec_lineLossTimer {r : OpenRecord} {left : Nat} {s : State} (hs : s.slu.session = .opened r (some left))
    (hleft : left < 30000000) (hdorm : s.mdu.dormantTimer ≠ .expired) :
    exec .lineLossTimerExpiry s = .next (s.endSession .lineLost) := by
  refine congrArg Host.Outcome.next ?_
  simp only [hs, hasRun, lineLossTime, hleft, decide_true, if_true]
  exact dormantTest_unexpired (by simpa using hdorm)

/-- A session that ends with the buffer free and a sequence left: its record is complete and its write begins (R146,
R149). -/
theorem endSession_written {s : State} {o : OpenRecord} {left : Option Nat} (ho : s.slu.session = .opened o left)
    (hb : s.slu.buffer = none) (hn : newestSeq s.slu.table < 4294967295) (reason : EndReason) :
    s.endSession reason = (State.startWrite
      ((s.sessionDeparts reason).completeRecord o reason s.clock.stamp (newestSeq s.slu.table + 1)) none
      (s.sessionDeparts reason)).idleAfterEnd := by
  obtain ⟨b, hsome, -⟩ | ⟨-, u, hu, e⟩ := endSession_steps ho reason
  · simp [hb] at hsome
  · rw [e]
    cases hu with
    | taken => simp [State.nextSequence]
    | exhausted h =>
      simp only [State.sessionDeparts_rest, lastSequence] at h
      omega

/-- Settles O44: a PENDING session returns to IDLE; an OPEN one departs, and its record waits or begins its write. -/
theorem sessionTimers : Obligations.SessionTimers := by
  refine ⟨fun id left s hs hleft hdorm => ?_, fun r left i s hs hleft hdorm hint => ?_⟩
  · obtain ⟨hexec, hslu, hclear⟩ := pendingTimer_returns hs hleft hdorm
    exact ⟨_, hexec, hslu, hclear, (holds_returnToIdle s).seq, by simp⟩
  · have hexec := exec_lineLossTimer hs hleft hdorm
    obtain ⟨hslu, hemt, -⟩ := sessionDeparts_opened hs .lineLost
    have hpeak := departed_peak hint
    refine ⟨fun b hb => ?_, fun hb hn hlen hwf => ?_⟩
    · obtain ⟨b', -, e⟩ | ⟨hnone, -⟩ := endSession_steps hs .lineLost
      · rw [e] at hexec
        exact ⟨_, s.clock.stamp, hexec, hslu, rfl, by rw [hemt]; rfl, by rw [hemt]; exact hpeak, by simp, by simp,
          by simp⟩
      · simp [hb] at hnone
    · rw [endSession_written hs hb hn] at hexec
      generalize hd : s.sessionDeparts .lineLost = d at hslu hemt hexec
      have hdrest : d.slu.table = s.slu.table ∧ d.store = s.store ∧ d.flu = s.flu ∧ d.mdu = s.mdu ∧
          d.clock = s.clock := by simp [← hd]
      obtain ⟨htable, hstore, hflu, hmdu, hclock⟩ := hdrest
      obtain ⟨hbuf, htab, hmeter, -, -, hsession⟩ := idleAfterEnd_spec (d.startWrite
        (d.completeRecord r .lineLost s.clock.stamp (newestSeq s.slu.table + 1)) none)
      have hopen : ∀ x : Session, (x = .idle ∨ ∃ id, x = .pending id pendingTime) → x.isOpen = false := by
        rintro x (rfl | ⟨id, rfl⟩) <;> rfl
      have htarget := targetOf_spec hlen none
      have hmark : slotAddr (targetOf s.slu.table none) markerOffset = 48 * (targetOf s.slu.table none).val + 47 := by
        simp [slotAddr, slotSize, markerOffset, Nat.mul_comm]
      have hwritten : ∀ a, readByte (d.startWrite
          (d.completeRecord r .lineLost s.clock.stamp (newestSeq s.slu.table + 1)) none).idleAfterEnd.store a =
          if a = 48 * (targetOf s.slu.table none).val + 47 then 0 else readByte s.store a := by
        intro a
        rw [State.idleAfterEnd_rest _ |>.2.2.2.2.2.1, State.startWrite, htable, hstore, clearMarker, hmark]
        exact readByte_writeByte hwf _ a 0
      have hdeparted : d.emt = s.emt.departed := hemt
      obtain ⟨h0, h1, h2, h3, hexp, hheat, hrecpeak⟩ :=
        completeRecord_departed hdeparted r .lineLost s.clock.stamp (newestSeq s.slu.table + 1)
      refine ⟨_, _, hexec, hopen _ hsession, hbuf, rfl, rfl, rfl, rfl, rfl, rfl, rfl, rfl, rfl, rfl, h0, h1, h2, h3,
        hexp, hheat, by rw [hrecpeak]; exact hpeak, ?_, ?_, ?_, ?_, ?_, ?_, ?_, ?_⟩
      · rw [htable]
        simpa using htarget
      · rw [htab, State.startWrite, htable]
      · rw [htable, hwritten, if_pos rfl]
      · intro a ha
        rw [htable] at ha
        rw [hwritten, if_neg ha]
      · rw [hmeter]
        simp [hdeparted, Meter.departed, Meter.start, State.reset, State.atStart]
      · simpa using hflu
      · simpa using hmdu
      · simpa using hclock

/-! ## The completion of a write (R149, R150) -/

theorem exec_storeWrite {b : Buffer} {s : State} (hb : s.slu.buffer = some b) (hdorm : s.mdu.dormantTimer ≠ .expired)
    (success : Bool) : exec (.storeWriteCompletion success) s = .next (s.writeDone success b) := by
  have hmdu : (s.writeDone success b).mdu = s.mdu := by
    unfold State.writeDone
    split
    · simp
    · split <;> simp
  refine congrArg Host.Outcome.next ?_
  simp only [hb]
  exact dormantTest_unexpired (by rwa [hmdu])

theorem moveToBuffer_other {s : State} (h : ∀ r x c, s.slu.session ≠ .ended r x c) : s.moveToBuffer = s := by
  obtain ⟨r, x, c, hs, -⟩ | e := moveToBuffer_cases s
  · exact absurd hs (h r x c)
  · exact e

/-- The latch of LOG leaves the log, and no session is in ENDED after it that was not before (R150, R156). -/
theorem latchLogFlag_fields (s : State) :
    (s.latch .log).slu.buffer = s.slu.buffer ∧ (s.latch .log).slu.table = s.slu.table ∧
    (s.latch .log).store = s.store ∧
    ((∀ r x c, s.slu.session ≠ .ended r x c) → ∀ r x c, (s.latch .log).slu.session ≠ .ended r x c) := by
  have hraise : (∀ r x c, s.slu.session ≠ .ended r x c) → ∀ r x c, (s.raiseFlag .log).slu.session ≠ .ended r x c := by
    intro h r x c
    cases hs : s.slu.session with
    | ended r' x' c' => exact absurd hs (h r' x' c')
    | _ => simp [State.raiseFlag, hs, Session.addFlag]
  have hopening : ∀ u : State, (∀ r x c, u.slu.session ≠ .ended r x c) →
      ∀ r x c, u.openingTest.slu.session ≠ .ended r x c := by
    intro u hu r x c
    obtain ⟨id, left, -, -, e⟩ | e := openingTest_cases u <;> rw [e]
    · simp [State.openSession]
    · exact hu r x c
  obtain e | e | e := latch_cases (f := .log) (.inl rfl) (by decide) s <;> rw [e]
  · exact ⟨rfl, rfl, rfl, id⟩
  · exact ⟨by simp [State.raiseFlag], by simp [State.raiseFlag], by simp, hraise⟩
  · exact ⟨by simp [State.raiseFlag], by simp [State.raiseFlag], by simp, fun h => hopening _ (hraise h)⟩

/-- Settles O45: the completion commits the record, writes it once more, or drops it. -/
theorem storeWrite : Obligations.StoreWrite := by
  intro b s hb hdorm hlen
  refine ⟨fun hsession => ⟨?_, fun slot hslot => ?_⟩, fun r reason closed hs hn => ?_, fun hfailed => ?_⟩
  · rw [exec_storeWrite hb hdorm]
    exact congrArg Host.Outcome.next (moveToBuffer_other (s := s.commitBuffer b) hsession)
  · obtain ⟨hbuf, htable, hstore, hended⟩ := latchLogFlag_fields { s with slu.buffer := none }
    have hdone : s.writeDone false b = State.latch .log { s with slu.buffer := none } := by
      simp only [State.writeDone, hslot]
      exact moveToBuffer_other (hended hsession)
    refine ⟨_, exec_storeWrite hb hdorm false, ?_⟩
    rw [hdone]
    exact ⟨hbuf, htable, hstore, latch_latched _ _, by simp, by simp⟩
  · obtain ⟨b', hb', -⟩ | ⟨-, u, hu, e⟩ := moveToBuffer_ended (s := s.commitBuffer b) hs
    · cases hb'
    · have hexec := exec_storeWrite hb hdorm true
      have hdone : s.writeDone true b = u.idleAfterEnd := e
      obtain ⟨hbuf, -, -, -, -, hidle⟩ := idleAfterEnd_spec u
      cases hu with
      | taken =>
        refine ⟨_, _, hexec, by rw [hdone]; exact hbuf, rfl, rfl, rfl, rfl, fun r' x' c' h => ?_⟩
        rw [hdone] at h
        obtain h' | ⟨id, h'⟩ := hidle <;> rw [h'] at h <;> cases h
      | exhausted hfull =>
        simp only [State.commitBuffer, lastSequence] at hfull
        omega
  · refine ⟨targetOf s.slu.table (some b.target), ?_, ?_⟩
    · rw [exec_storeWrite hb hdorm]
      simp [State.writeDone, hfailed, State.startWrite, clearMarker, slotAddr, slotSize, markerOffset, writeTime,
        Nat.mul_comm]
    · obtain ⟨hempty, hne, hbelow⟩ | ⟨hfull, n, hn, hleast⟩ := targetOf_spec hlen (some b.target)
      · refine .inl ⟨hempty, fun h => hne (by rw [h]), fun j hj => (hbelow j hj).imp_right fun h => ?_⟩
        exact (Option.some.inj h).symm
      · exact .inr ⟨fun j => (hfull j).imp_right fun h => (Option.some.inj h).symm, n, hn, hleast⟩

end Sys2Proof.Machine
end

section
/-! PROOF. The own id heard (O29), and the insulation samples (O15, O17). -/

namespace Sys2Proof.Machine

/-! ## The own id (R34) -/

/-- A telegram with the own id latches DUP_ID, whatever its kind (R34). -/
theorem receive_ownId {s : State} {rx : Received} {t : List Byte} (pass : Received → State → State)
    (hh : s.Hears) (hc : checkTelegram t = some rx) (hs : rx.source = s.mdu.station) :
    s.receive rx.kind t pass = s.telegramEnds.latch .dupId := by
  have hruns : s.runs = true := hh.1
  simp [State.receive, hruns, takesUp_of_hears hh, State.completeTelegram, hc, hs]

theorem arrive_ownId {s : State} {rx : Received} {t : List Byte} (pass : Received → State → State)
    (hh : s.Hears) (hc : checkTelegram t = some rx) (hs : rx.source = s.mdu.station)
    (hdorm : s.mdu.dormantTimer ≠ .expired) : s.arrive rx.kind t pass = s.telegramEnds.latch .dupId := by
  rw [State.arrive, receive_ownId pass hh hc hs]
  exact dormantTest_unexpired (by simpa using hdorm)

theorem exec_ownIdArrival {s : State} {telegram payload : List Byte} {k : Kind} {c : Instr} (hh : s.Hears)
    (hdorm : s.mdu.dormantTimer ≠ .expired)
    (hc : checkTelegram telegram = some { source := s.mdu.station, kind := k, payload := payload })
    (hcase : (k, c) ∈ [(.beacon, .beaconArrival telegram), (.contract, .contractArrival telegram),
      (.halt, .haltArrival telegram), (.injectIntent, .injectIntentArrival telegram),
      (.isoResult, .isoResultArrival telegram), (.logRead, .logReadArrival telegram),
      (.logRecord, .logRecordArrival telegram), (.flagClear, .flagClearArrival telegram)]) :
    exec c s = .next (s.telegramEnds.latch .dupId) := by
  have harrive : ∀ pass, s.arrive k telegram pass = s.telegramEnds.latch .dupId := fun pass =>
    arrive_ownId (rx := { source := s.mdu.station, kind := k, payload := payload }) pass hh hc rfl hdorm
  simp only [List.mem_cons, Prod.mk.injEq, List.not_mem_nil, or_false] at hcase
  rcases hcase with ⟨rfl, rfl⟩ | ⟨rfl, rfl⟩ | ⟨rfl, rfl⟩ | ⟨rfl, rfl⟩ | ⟨rfl, rfl⟩ | ⟨rfl, rfl⟩ | ⟨rfl, rfl⟩ |
    ⟨rfl, rfl⟩
  · have hpass := harrive State.peerBeacon
    exact congrArg Host.Outcome.next hpass
  · have hpass := harrive State.peerContract
    exact congrArg Host.Outcome.next hpass
  · have hpass := harrive State.peerHalt
    exact congrArg Host.Outcome.next hpass
  · have hpass := harrive State.peerIntentHeard
    exact congrArg Host.Outcome.next hpass
  · have hpass := harrive State.peerResult
    exact congrArg Host.Outcome.next hpass
  · have hpass := harrive State.peerLogRead
    exact congrArg Host.Outcome.next hpass
  · have hpass := harrive State.peerLogRecord
    exact congrArg Host.Outcome.next hpass
  · have hpass := harrive State.peerFlagClear
    exact congrArg Host.Outcome.next hpass

theorem sequencerOff_peerIntent (s : State) : s.sequencerOff.imon.peerIntent = s.imon.peerIntent := by
  unfold State.sequencerOff State.withdrawIntent
  split
  · split <;> simp
  · simp
  · simp

/-- What the latch of DUP_ID leaves (R34, R79, R96, R141). -/
theorem latchDupId_spec {s : State} (h : s.latched .dupId = false) :
    (∀ f, f ≠ .dupId → f ≠ .log → (s.latch .dupId).latched f = s.latched f) ∧ (s.latch .dupId).she.claim = 0 ∧
    (s.latch .dupId).imon.seq = .off ∧ (s.latch .dupId).imon.isoSw = .opened ∧
    (s.latch .dupId).imon.peerIntent = s.imon.peerIntent ∧
    (s.mdu.mode.handlesSessions = true → (s.latch .dupId).slu.session.isOpen = false) := by
  generalize hv : (s.raiseFlag .dupId).sequencerOff = v
  obtain ⟨hseq, -, hsw, -⟩ := sequencerOff_spec (s.raiseFlag .dupId)
  have hflags : ∀ f, v.latched f = (s.latched f || decide (f = .dupId)) := by
    intro f
    rw [← raiseFlag_latched, ← hv]
    simp [State.latched]
  have hclaim : v.she.claim = 0 := by
    have hbar : (State.updateAlert { s with
        flu.flags := FlagSet.insert s.flu.flags .dupId, slu.session := s.slu.session.addFlag .dupId }).claimBarred =
        true := by
      simp [State.claimBarred, State.latched, has_insert]
    rw [← hv]
    simp [State.raiseFlag, recompute_claim, computedClaim_barred hbar]
  have hpeer : v.imon.peerIntent = s.imon.peerIntent := by
    rw [← hv, sequencerOff_peerIntent]
    simp
  rw [hv] at hseq hsw
  have hends : ∀ reason, Holds v (v.endSession reason) := fun reason => holds_endSession (by simp [hseq]) reason
  have hlatch : s.latch .dupId = if v.mdu.mode.handlesSessions then v.endSession .duplicateId else v := by
    rw [latch_new h]
    simp only [State.monitorLatch, hv, State.sessionLatch, State.latchEnds]
    split
    · refine openingTest_of_not_mayOpen ?_
      have hdup := endSession_latched v .duplicateId (f := .dupId) (by decide)
      simp [State.mayOpen, hdup, hflags]
    · rfl
  have hmode : v.mdu.mode = s.mdu.mode := by simp [← hv]
  rw [hlatch, hmode]
  split
  · next hm =>
    have hheld := hends .duplicateId
    refine ⟨fun f hf hlog => ?_, ?_, hheld.seq.trans hseq, ?_, ?_, fun _ => endSession_isOpen _ _⟩
    · rw [endSession_latched _ _ hlog, hflags]
      simp [hf]
    · cases hopen : v.slu.session.isOpen
      · rwa [endSession_closed hopen]
      · exact endSession_claim hopen _
    · rw [hheld.imon]
      exact hsw
    · rw [hheld.imon]
      exact hpeer
  · next hm =>
    exact ⟨fun f hf _ => by simp [hflags, hf], hclaim, hseq, hsw, hpeer, fun h => absurd h hm⟩

/-- Settles O29: the arrival ends on the bus and latches DUP_ID, which ends the session and the sequencer's work. -/
theorem ownIdArrival : Obligations.OwnIdArrival := by
  intro telegram k payload c s hh hdorm hdup hc hcase
  obtain ⟨hflags, hclaim, hseq, hsw, hpeer, hopen⟩ := latchDupId_spec (s := s.telegramEnds) hdup
  exact ⟨_, exec_ownIdArrival hh hdorm hc hcase, latch_latched _ _, hflags, hclaim, hseq, hsw, hpeer,
    fun hmode => hopen (handlesSessions_of_runs hh.1 hmode), by simp, by simp, by simp⟩

/-! ## Samples inside a measurement (R105) -/

/-- A station in INJECTING does not enter DORMANT (R173). -/
theorem dormantTest_of_injecting {before t : State} {p : Phase} {k : Nat} (h : t.imon.seq = .injecting p k) :
    State.dormantTest before t = t := by
  have hnot : t.dormantReady = false := by simp [State.dormantReady, h]
  simp [State.dormantTest, hnot]

theorem insulationCode_of_range {code : Int} (hlo : -2047 < code) (hhi : code < 2047) :
    insulationCode code = code ∧ saturated code = false := by
  refine ⟨?_, ?_⟩
  · simp only [insulationCode, limit]
    omega
  · simp only [saturated, Bool.or_eq_false_iff, beq_eq_false_iff_ne]
    omega

/-- A sample that is cropped or not saturated: its sum, and the sample count of its phase (R105). -/
theorem takeSample_kept {s : State} {index : Nat} {code : Int}
    (h : index ≤ s.mdu.cfg.crop ∨ (-2047 < code ∧ code < 2047))
    (p : Phase) :
    s.takeSample p index (insulationCode code) = State.advanceSample p index
      { s with imon.sums := if index ≤ s.mdu.cfg.crop then s.imon.sums else s.imon.sums.add p code } := by
  unfold State.takeSample
  split
  · rfl
  · next hcrop =>
    obtain ⟨hlo, hhi⟩ := h.resolve_left hcrop
    obtain ⟨hcode, hsat⟩ := insulationCode_of_range hlo hhi
    rw [hcode, if_neg (by simp [hsat])]

/-- A kept sample joins the sum of its phase alone (R105). -/
theorem PhaseSums.add_eq (t : PhaseSums) (p : Phase) (code : Int) :
    t.add p code =
      { s1 := t.s1 + (if p = .p1 then code else 0), s2 := t.s2 + (if p = .p2 then code else 0),
        s3 := t.s3 + (if p = .p3 then code else 0), s4 := t.s4 + (if p = .p4 then code else 0) } := by
  cases p <;> simp [PhaseSums.add]

/-- Settles O15: the sample goes to its sum, and the next one belongs to the same phase or the next. -/
theorem insulationSampleTaken : Obligations.InsulationSampleTaken := by
  intro code phase phase' index index' s hseq hnext hkept
  have hadvance : ∀ u : State, u.mdu.cfg = s.mdu.cfg →
      u.advanceSample phase (index + 1) = u.setSeq (.injecting phase' index') := by
    intro u hu
    obtain ⟨hlt, rfl, rfl⟩ | ⟨hlast, rfl, hphase⟩ := hnext
    · exact if_pos (by simpa [phaseSamples, hu] using hlt)
    · have hnot : ¬ index + 1 < phaseSamples u.mdu.cfg.phaseCode := by simp [phaseSamples, hu, hlast]
      obtain ⟨rfl, rfl⟩ | ⟨rfl, rfl⟩ | ⟨rfl, rfl⟩ := hphase <;> simp [State.advanceSample, hnot, Phase.next]
  have hsample := exec_insulationSample hseq code
  rw [takeSample_kept hkept] at hsample
  generalize hu : ({ s with imon.sums :=
    if index + 1 ≤ s.mdu.cfg.crop then s.imon.sums else s.imon.sums.add phase code } : State) = u at hsample
  rw [hadvance u (by rw [← hu]), dormantTest_of_injecting (p := phase') (k := index') rfl] at hsample
  have hswitch : (Seq.injecting phase' index').switch = if phase' = .p1 ∨ phase' = .p4 then .plus else .minus := by
    cases phase' <;> rfl
  rw [hsample, State.setSeq, hswitch, ← hu, PhaseSums.add_eq]
  rfl

end Sys2Proof.Machine
end

section
/-! PROOF. Classification (R112 to R117): the counters, the insulation state, and what the entry into FAULT ends. -/

namespace Sys2Proof.Machine

/-! ## The monitor at the end of a session -/

/-- The counters of a monitor are another's (R113). -/
def Monitor.SameCounters (m m' : Monitor) : Prop :=
  m'.belowFault = m.belowFault ∧ m'.belowWarn = m.belowWarn ∧ m'.aboveWarn = m.aboveWarn

theorem Monitor.SameCounters.of_eq {m m' : Monitor} (h : m' = m) : m.SameCounters m' := by
  rw [h]
  exact ⟨rfl, rfl, rfl⟩

theorem Monitor.SameCounters.trans {m m' m'' : Monitor} (h : m.SameCounters m') (h' : m'.SameCounters m'') :
    m.SameCounters m'' := ⟨h'.1.trans h.1, h'.2.1.trans h.2.1, h'.2.2.trans h.2.2⟩

theorem Holds.counters {s t : State} (h : Holds s t) : s.imon.SameCounters t.imon := by
  rw [h.imon]
  exact ⟨rfl, rfl, rfl⟩

theorem goPending_counters (s : State) (id : Nat) : s.imon.SameCounters (s.goPending id).imon := by
  unfold State.goPending State.monitorPending
  split <;> simp [Monitor.SameCounters]

theorem Recorded.imon {r : OpenRecord} {reason : EndReason} {closed : Stamp} {s u : State}
    (h : Recorded r reason closed s u) : u.imon = s.imon := by
  cases h <;> simp

/-- The sequencer stays, or its wait is shortened by a prompt (R100). -/
def SeqStays (s t : State) : Prop :=
  t.imon.seq = s.imon.seq ∨ ∃ left left', s.imon.seq = .waiting left ∧ t.imon.seq = .waiting left'

/-- A FAULT whose good results have not been heard stays at an entry into IDLE (R114). -/
theorem monitorIdle_insulation {s : State} (h : s.imon.aboveWarn < s.confirm) :
    s.monitorIdle.imon.insulation = s.imon.insulation := by
  rw [State.monitorIdle, if_neg (by omega)]

theorem idleAfterEnd_monitor (s : State) :
    s.imon.SameCounters s.idleAfterEnd.imon ∧ SeqStays s s.idleAfterEnd ∧
    (s.imon.aboveWarn < s.confirm → s.idleAfterEnd.imon.insulation = s.imon.insulation) := by
  have hidled := holds_idled s
  have hinsulation : s.imon.aboveWarn < s.confirm → s.idled.imon.insulation = s.imon.insulation := by
    intro h
    have hidle := monitorIdle_insulation (s := { s with slu.session := .idle }.meterIdles)
      (by simpa [State.confirm] using h)
    simpa [State.idled] using hidle
  rw [idleAfterEnd_eq]
  obtain e | ⟨r, -, -, -, -, -, -, e⟩ := retest_cases s.idled <;> rw [e]
  · exact ⟨hidled.counters, .inl hidled.seq, hinsulation⟩
  · refine ⟨hidled.counters.trans (goPending_counters _ _), ?_, fun h => by simpa using hinsulation h⟩
    obtain ⟨hseq, -⟩ | ⟨left, left', hs, ht, -⟩ := goPending_sequencer s.idled r.session
    · exact .inl (hseq.trans hidled.seq)
    · exact .inr ⟨left, left', hidled.seq.symm.trans hs, ht⟩

/-- What an end leaves in the monitor (R100, R113, R114). -/
theorem endSession_monitor (s : State) (reason : EndReason) :
    s.imon.SameCounters (s.endSession reason).imon ∧ SeqStays s (s.endSession reason) ∧
    (s.imon.aboveWarn < s.confirm → (s.endSession reason).imon.insulation = s.imon.insulation) := by
  cases hopen : s.slu.session.isOpen
  · rw [endSession_closed hopen]
    exact ⟨.of_eq rfl, .inl rfl, fun _ => rfl⟩
  · obtain ⟨o, left, ho⟩ := opened_of_isOpen hopen
    obtain ⟨b, -, e⟩ | ⟨-, u, hu, e⟩ := endSession_steps ho reason <;> rw [e]
    · exact ⟨.of_eq (by simp), .inl (by simp), fun _ => by simp⟩
    · obtain ⟨hcount, hseq, hins⟩ := idleAfterEnd_monitor u
      have himon : u.imon = s.imon := hu.imon.trans (by simp)
      have hconfirm : u.confirm = s.confirm := by
        cases hu <;> simp [State.confirm]
      rw [himon] at hcount hins
      rw [hconfirm] at hins
      refine ⟨hcount, ?_, hins⟩
      rwa [SeqStays, himon] at hseq

/-! ## The counters (R113) -/

theorem counted_after (faultK warnK r : Nat) (m : Monitor) :
    CountersAfter faultK warnK r m (m.counted faultK warnK r) := by
  unfold Monitor.counted
  split
  · next h => simp [CountersAfter, h, bump]
  · next h =>
    split
    · next h' => simp [CountersAfter, h, h', bump]
    · next h' => simp [CountersAfter, h, h', bump]

theorem countersAfter_congr {faultK warnK r : Nat} {m m' m'' : Monitor} (h : CountersAfter faultK warnK r m m')
    (hsame : m'.SameCounters m'') : CountersAfter faultK warnK r m m'' := by
  obtain ⟨h1, h2, h3⟩ := h
  exact ⟨hsame.1.trans h1, hsame.2.1.trans h2, hsame.2.2.trans h3⟩

/-- A value that counts below the fault limit ends the run of good ones (R113). -/
theorem counted_aboveWarn {faultK warnK r : Nat} {m : Monitor} (h : 0 < (m.counted faultK warnK r).belowFault) :
    (m.counted faultK warnK r).aboveWarn = 0 := by
  unfold Monitor.counted at h ⊢
  split at h
  · next hr => simp [hr]
  · split at h <;> simp at h

theorem counted_intentSeq (faultK warnK r : Nat) (m : Monitor) :
    (m.counted faultK warnK r).intentSeq = m.intentSeq := by
  unfold Monitor.counted
  repeat' split
  all_goals rfl

/-! ## The insulation state (R114, R115) -/

/-- The insulation state that the counters call for (R114, R115). -/
def nextInsulation (before : Insulation) (idle : Bool) (confirm : Nat) (m : Monitor) : Insulation :=
  match before with
  | .unknown =>
    if confirm ≤ m.belowFault then .fault else if 1 ≤ m.aboveWarn then .good
    else if confirm ≤ m.belowWarn then .warning else .unknown
  | .good => if confirm ≤ m.belowFault then .fault else if confirm ≤ m.belowWarn then .warning else .good
  | .warning => if confirm ≤ m.belowFault then .fault else if confirm ≤ m.aboveWarn then .good else .warning
  | .fault => if confirm ≤ m.aboveWarn ∧ idle = true then .good else .fault

/-- A change of the insulation state with what it does (R114, R115, R117). -/
def State.moveInsulation (i : Insulation) (s : State) : State :=
  if i = s.imon.insulation then s
  else
    match i with
    | .fault => s.enterIsoFault
    | .good => s.enterIsoGood
    | .warning => s.enterIsoWarning
    | .unknown => s

/-- The state transition is a change to the state that the counters call for. -/
theorem insulationStep_eq (s : State) :
    s.insulationStep =
      s.moveInsulation (nextInsulation s.imon.insulation s.slu.session.isIdle s.confirm s.imon) := by
  unfold State.insulationStep State.moveInsulation nextInsulation
  cases hi : s.imon.insulation <;> simp only <;> repeat' split
  all_goals simp_all

theorem insulationAfter_iff {before : Insulation} {idle : Bool} {confirm : Nat} {m m' : Monitor}
    (hsame : m.SameCounters m') :
    InsulationAfter before idle confirm m' ↔ m'.insulation = nextInsulation before idle confirm m := by
  obtain ⟨h1, h2, h3⟩ := hsame
  cases before <;> simp only [InsulationAfter, nextInsulation, h1, h2, h3]

theorem nextInsulation_unknown {before : Insulation} {idle : Bool} {confirm : Nat} {m : Monitor}
    (h : nextInsulation before idle confirm m = .unknown) : before = .unknown := by
  cases before with
  | unknown => rfl
  | good => simp only [nextInsulation] at h; split_ifs at h
  | warning => simp only [nextInsulation] at h; split_ifs at h
  | fault => simp only [nextInsulation] at h; split_ifs at h

/-- FAULT is entered after enough values below the fault limit (R114). -/
theorem nextInsulation_fault {before : Insulation} {idle : Bool} {confirm : Nat} {m : Monitor}
    (h : nextInsulation before idle confirm m = .fault) (hne : before ≠ .fault) : confirm ≤ m.belowFault := by
  by_contra hlow
  cases before with
  | unknown => simp only [nextInsulation, if_neg hlow] at h; split_ifs at h
  | good => simp only [nextInsulation, if_neg hlow] at h; split_ifs at h
  | warning => simp only [nextInsulation, if_neg hlow] at h; split_ifs at h
  | fault => exact hne rfl

/-- The latch of ISO_WARN or ISO_FAULT leaves the monitor, the interface and the front end (R156). -/
theorem holds_latchIso {f : Flag} (hf : f = .isoWarn ∨ f = .isoFault) (s : State) :
    Holds s (s.latch f) ∧ (s.latch f).imon = s.imon := by
  have hcases : s.latch f = s ∨ s.latch f = s.raiseFlag f ∨ s.latch f = (s.raiseFlag f).openingTest := by
    obtain rfl | rfl := hf <;> exact latch_cases (.inl rfl) (by decide) s
  obtain e | e | e := hcases <;> rw [e]
  · exact ⟨.refl s, rfl⟩
  · exact ⟨holds_raiseFlag s f, by simp⟩
  · exact ⟨(holds_raiseFlag s f).trans (holds_openingTest _), by simp⟩

/-- The state in which a session ends at the entry into FAULT (R115). -/
def State.faultLatched (s : State) : State := { (s.faultEntered.latch .isoFault) with imon.clearance := false }

theorem enterIsoFault_eq (s : State) : s.enterIsoFault = (s.faultLatched.endSession .isoFault).recompute := rfl

theorem faultLatched_imon (s : State) :
    s.faultLatched.imon = { s.imon with insulation := .fault, clearance := false } ∧ Holds s s.faultLatched := by
  obtain ⟨hheld, himon⟩ := holds_latchIso (.inr rfl) s.faultEntered
  have hfault : s.faultLatched.imon = { s.imon with insulation := .fault, clearance := false } := by
    show { (s.faultEntered.latch .isoFault).imon with clearance := false } = _
    rw [himon]
    rfl
  exact ⟨hfault, hheld.pbi, hheld.mfe, by rw [hfault]⟩

/-- What the entry into FAULT leaves (R115). -/
theorem enterIsoFault_spec {s : State} (h : s.imon.aboveWarn < s.confirm) :
    s.imon.SameCounters s.enterIsoFault.imon ∧ SeqStays s s.enterIsoFault ∧ s.enterIsoFault.imon.insulation = .fault ∧
    s.enterIsoFault.latched .isoFault = true ∧ s.enterIsoFault.imon.clearance = false ∧
    s.enterIsoFault.slu.session.isOpen = false ∧ s.enterIsoFault.she.claim = 0 ∧
    ((∀ left, s.imon.seq ≠ .waiting left) → Holds s s.enterIsoFault) := by
  obtain ⟨himon, hheld⟩ := faultLatched_imon s
  obtain ⟨hcount, hseq, hins⟩ := endSession_monitor s.faultLatched .isoFault
  have hconfirm : s.faultLatched.confirm = s.confirm := by simp [State.faultLatched, State.faultEntered, State.confirm]
  have hlatched : s.faultLatched.latched .isoFault = true := latch_latched s.faultEntered .isoFault
  have hclear : (s.faultLatched.endSession .isoFault).imon.clearance = false := by
    cases hopen : s.faultLatched.slu.session.isOpen
    · rw [endSession_closed hopen, himon]
    · obtain ⟨o, left, ho⟩ := opened_of_isOpen hopen
      obtain ⟨b, -, e⟩ | ⟨-, u, -, e⟩ := endSession_steps ho .isoFault <;> rw [e]
      · simp [himon]
      · exact (idleAfterEnd_spec u).2.2.2.2.1
  rw [enterIsoFault_eq]
  refine ⟨?_, ?_, ?_, ?_, by simpa using hclear, by simpa using endSession_isOpen _ _,
    recompute_claim_closed (endSession_isOpen _ _), fun hw => ?_⟩
  · exact hheld.counters.trans (by simpa using hcount)
  · rwa [SeqStays, State.recompute_rest _ |>.2.2.2.2.2.2.1, ← hheld.seq]
  · have hkept := hins (by rw [hconfirm, himon]; exact h)
    simp [hkept, himon]
  · have hkept := endSession_latched s.faultLatched .isoFault (f := .isoFault) (by decide)
    simpa [State.latched] using hkept.trans hlatched
  · exact (hheld.trans (holds_endSession (by simpa only [hheld.seq] using hw) _)).trans (holds_recompute _)

/-- What a change of the insulation state leaves (R114, R115, R117). -/
theorem moveInsulation_spec {s : State} {i : Insulation} (hknown : i = .unknown → s.imon.insulation = .unknown)
    (hfault : i = .fault → s.imon.insulation ≠ .fault → s.imon.aboveWarn < s.confirm) :
    s.imon.SameCounters (s.moveInsulation i).imon ∧ SeqStays s (s.moveInsulation i) ∧
    (s.moveInsulation i).imon.insulation = i ∧
    (i = .warning → s.imon.insulation ≠ .warning → (s.moveInsulation i).latched .isoWarn = true) ∧
    (i = .fault → s.imon.insulation ≠ .fault → (s.moveInsulation i).latched .isoFault = true ∧
      (s.moveInsulation i).imon.clearance = false ∧ (s.moveInsulation i).slu.session.isOpen = false ∧
      (s.moveInsulation i).she.claim = 0) ∧
    ((∀ left, s.imon.seq ≠ .waiting left) → Holds s (s.moveInsulation i)) := by
  by_cases hsame : i = s.imon.insulation
  · have hstay : s.moveInsulation i = s := if_pos hsame
    rw [hstay]
    exact ⟨.of_eq rfl, .inl rfl, hsame.symm, fun h hne => absurd (hsame.symm.trans h) hne,
      fun h hne => absurd (hsame.symm.trans h) hne, fun _ => .refl s⟩
  · simp only [State.moveInsulation, if_neg hsame]
    cases i with
    | unknown => exact absurd (hknown rfl).symm hsame
    | good =>
      exact ⟨by simp [State.enterIsoGood, Monitor.SameCounters], .inl (by simp [State.enterIsoGood]),
        by simp [State.enterIsoGood], nofun, nofun,
        fun _ => ⟨by simp, by simp, by simp [State.enterIsoGood]⟩⟩
    | warning =>
      obtain ⟨hheld, himon⟩ := holds_latchIso (.inl rfl) { s with imon.insulation := .warning }
      have hstate : s.enterIsoWarning.imon = { s.imon with insulation := .warning } := by
        simp [State.enterIsoWarning, himon]
      have hlatched := latch_latched { s with imon.insulation := .warning } .isoWarn
      refine ⟨by rw [hstate]; exact ⟨rfl, rfl, rfl⟩, .inl (by rw [hstate]), by rw [hstate], fun _ _ => ?_, nofun,
        fun _ => ⟨?_, ?_, by rw [hstate]⟩⟩
      · simpa [State.enterIsoWarning, State.latched] using hlatched
      · simpa [State.enterIsoWarning] using hheld.pbi
      · simpa [State.enterIsoWarning] using hheld.mfe
    | fault =>
      obtain ⟨hcount, hseq, hins, hlatched, hclear, hopen, hclaim, hheld⟩ :=
        enterIsoFault_spec (hfault rfl (Ne.symm hsame))
      exact ⟨hcount, hseq, hins, nofun, fun _ _ => ⟨hlatched, hclear, hopen, hclaim⟩, hheld⟩


/-! ## One classification (R117) -/

/-- The counters and the OPEN session's minimum after a value (R113, R145). -/
def State.resultCounted (r : Nat) (s : State) : State :=
  { s with
    imon := s.imon.counted s.mdu.cfg.faultK s.mdu.cfg.warnK r
    slu.session := s.slu.session.addResult r }

/-- The insulation state that a value leads to (R113, R114). -/
def State.insulationFor (r : Nat) (s : State) : Insulation :=
  nextInsulation s.imon.insulation s.slu.session.isIdle s.confirm (s.imon.counted s.mdu.cfg.faultK s.mdu.cfg.warnK r)

theorem classify_eq {s : State} (h : s.mdu.mode.classifies = true) (r : Nat) :
    s.classify r = ((s.resultCounted r).moveInsulation (s.insulationFor r)).giveClearance r := by
  rw [State.classify, if_pos h]
  show State.giveClearance r (s.resultCounted r).insulationStep = _
  rw [insulationStep_eq]
  simp [State.insulationFor, State.resultCounted, State.confirm]

theorem resultCounted_holds (s : State) (r : Nat) :
    (s.resultCounted r).imon.seq = s.imon.seq ∧ (s.resultCounted r).imon.insulation = s.imon.insulation ∧
    (s.resultCounted r).imon.intentSeq = s.imon.intentSeq ∧ (s.resultCounted r).pbi = s.pbi ∧
    (s.resultCounted r).mfe = s.mfe := by
  simp [State.resultCounted, counted_intentSeq]

/-- The counters that lead into FAULT hold no run of good results (R113, R114). -/
theorem insulationFor_fault {s : State} {r : Nat} (h : s.insulationFor r = .fault) (hne : s.imon.insulation ≠ .fault) :
    (s.resultCounted r).imon.aboveWarn < (s.resultCounted r).confirm := by
  have hpos : 0 < s.confirm := Nat.two_pow_pos _
  have hbelow : s.confirm ≤ (s.imon.counted s.mdu.cfg.faultK s.mdu.cfg.warnK r).belowFault := nextInsulation_fault h hne
  have habove : (s.resultCounted r).imon.aboveWarn = 0 := counted_aboveWarn (by omega)
  rw [habove]
  exact hpos

theorem insulationFor_unknown {s : State} {r : Nat} (h : s.insulationFor r = .unknown) :
    (s.resultCounted r).imon.insulation = .unknown := by
  rw [(resultCounted_holds s r).2.1]
  exact nextInsulation_unknown h

/-- The clearance is given to a PENDING session outside FAULT (R116), with its opening test (R138). -/
theorem giveClearance_cases (s : State) (r : Nat) :
    s.giveClearance r = s ∨
    (s.slu.session.isPending = true ∧ s.mdu.cfg.faultK ≤ r ∧ s.imon.insulation ≠ .fault ∧ s.imon.clearance = false ∧
      s.giveClearance r = State.openingTest { s with imon.clearance := true }) := by
  unfold State.giveClearance
  split
  · next h => exact .inr ⟨h.1, h.2.1, h.2.2.1, by simpa using h.2.2.2, rfl⟩
  · exact .inl rfl

theorem holds_giveClearance (s : State) (r : Nat) :
    Holds s (s.giveClearance r) ∧ (s.giveClearance r).imon.insulation = s.imon.insulation := by
  obtain e | ⟨-, -, -, -, e⟩ := giveClearance_cases s r <;> rw [e]
  · exact ⟨.refl s, rfl⟩
  · exact ⟨⟨by simp, by simp, by simp⟩, by simp⟩

/-- In FAULT no clearance is given (R116). -/
theorem giveClearance_fault {s : State} (h : s.imon.insulation = .fault) (r : Nat) : s.giveClearance r = s := by
  obtain e | ⟨-, -, hne, -⟩ := giveClearance_cases s r
  · exact e
  · exact absurd h hne

/-- What a classification leaves (R113, R114, R115, R117). -/
theorem classify_spec {s : State} (h : s.mdu.mode.classifies = true) (r : Nat) :
    CountersAfter s.mdu.cfg.faultK s.mdu.cfg.warnK r s.imon (s.classify r).imon ∧
    InsulationAfter s.imon.insulation s.slu.session.isIdle (2 ^ s.mdu.cfg.confirmCode) (s.classify r).imon ∧
    ((s.classify r).imon.insulation = .warning → s.imon.insulation ≠ .warning →
      (s.classify r).latched .isoWarn = true) ∧
    ((s.classify r).imon.insulation = .fault → s.imon.insulation ≠ .fault →
      (s.classify r).latched .isoFault = true ∧ (s.classify r).imon.clearance = false ∧
      (s.classify r).slu.session.isOpen = false ∧ (s.classify r).she.claim = 0) ∧
    SeqStays s (s.classify r) := by
  obtain ⟨hseq, hins, -⟩ := resultCounted_holds s r
  obtain ⟨hcount, hstay, hi, hwarn, hfault, -⟩ := moveInsulation_spec (s := s.resultCounted r) (i := s.insulationFor r)
    (fun h => insulationFor_unknown h) (fun h hne => insulationFor_fault h (by rwa [← hins]))
  have heq := classify_eq h r
  generalize hu : (s.resultCounted r).moveInsulation (s.insulationFor r) = u at *
  obtain ⟨hheld, hkept⟩ := holds_giveClearance u r
  have hcounters : (s.resultCounted r).imon.SameCounters (s.classify r).imon := by
    rw [heq]
    exact hcount.trans hheld.counters
  have hstate : (s.classify r).imon.insulation = s.insulationFor r := by rw [heq, hkept, hi]
  have hflags : ∀ f, (s.classify r).latched f = u.latched f := by
    intro f
    simp [heq, State.latched]
  refine ⟨countersAfter_congr (counted_after _ _ r s.imon) hcounters, (insulationAfter_iff hcounters).2 hstate,
    fun hw hne => ?_, fun hf hne => ?_, ?_⟩
  · rw [hflags]
    exact hwarn (hstate.symm.trans hw) (by rwa [hins])
  · have hif := hstate.symm.trans hf
    rw [heq, giveClearance_fault (hi.trans hif)]
    exact hfault hif (by rwa [hins])
  · rw [SeqStays, heq, hheld.seq, ← hseq]
    exact hstay

theorem classify_idle {s : State} (h : s.mdu.mode.classifies = false) (r : Nat) : s.classify r = s := by
  rw [State.classify, if_neg (by simp [h])]

/-- A sequencer that is not WAITING stays at a classification, and with it the interface and the front end (R100). -/
theorem classify_holds {s : State} (hw : ∀ left, s.imon.seq ≠ .waiting left) (r : Nat) :
    (s.classify r).pbi = s.pbi ∧ (s.classify r).mfe = s.mfe ∧ (s.classify r).imon.seq = s.imon.seq ∧
    (s.classify r).imon.intentSeq = s.imon.intentSeq := by
  cases h : s.mdu.mode.classifies
  · rw [classify_idle h]
    exact ⟨rfl, rfl, rfl, rfl⟩
  · obtain ⟨hseq, hins, hintent, hpbi, hmfe⟩ := resultCounted_holds s r
    obtain ⟨-, -, -, -, -, hheld⟩ := moveInsulation_spec (s := s.resultCounted r) (i := s.insulationFor r)
      (fun h => insulationFor_unknown h) (fun h hne => insulationFor_fault h (by rwa [← hins]))
    have hall := (hheld (by rwa [hseq])).trans (holds_giveClearance _ r).1
    rw [classify_eq h]
    exact ⟨hall.pbi.trans hpbi, hall.mfe.trans hmfe, hall.seq.trans hseq, by rw [hall.imon, hintent]⟩

/-! ## The end of a measurement (R105, R110, R111) -/

/-- WAITING with interval plus spread, from the next random value (R29, R99). -/
theorem enterWaiting_spec (s : State) :
    s.enterWaiting.pbi = { s.pbi with random := (s.pbi.random * 25173 + 13849) % 65536 } ∧
    s.enterWaiting.imon.seq = .waiting
      ((s.mdu.cfg.interval + s.enterWaiting.pbi.random % (s.mdu.cfg.interval / 8 + 1)) * 1000000) ∧
    s.enterWaiting.imon.isoSw = .opened ∧ s.enterWaiting.imon.injecting = false ∧ s.enterWaiting.mfe.insClock = none ∧
    s.enterWaiting.imon.noResponse = s.imon.noResponse ∧ s.enterWaiting.imon.insulation = s.imon.insulation ∧
    s.enterWaiting.imon.clearance = s.imon.clearance ∧ s.imon.SameCounters s.enterWaiting.imon :=
  ⟨rfl, rfl, rfl, rfl, rfl, rfl, rfl, rfl, rfl, rfl, rfl⟩

/-- A result loaded while nothing is sent occupies the slot (R20, R108). -/
theorem loadOwnResult_idle {s : State} {volts : Nat} (hidle : s.pbi.attempt = none)
    (hvolts : s.mfe.record.ustr = some volts) (kind : ResultKind) (value : Nat) :
    s.loadOwnResult kind value =
      { s with pbi.result := some (TxSlot.fresh (resultPayload s.imon.intentSeq kind value volts)) } := by
  rw [State.loadOwnResult, busVoltage_of_record hvolts, loadResult_eq]
  simp [PeerBus.attempting, hidle]

/-- The latch of INJECTOR and the end of the sequencer's work (R111). -/
theorem injectorFails_spec (s : State) {p : Phase} {k : Nat} (hseq : s.imon.seq = .injecting p k) :
    s.injectorFails.imon.seq = .off ∧ s.injectorFails.imon.isoSw = .opened ∧ s.injectorFails.imon.injecting = false ∧
    s.injectorFails.mfe.insClock = none ∧ s.injectorFails.pbi = s.pbi ∧ s.injectorFails.latched .injector = true ∧
    s.injectorFails.imon.noResponse = s.imon.noResponse ∧ s.injectorFails.imon.insulation = s.imon.insulation ∧
    s.imon.SameCounters s.injectorFails.imon := by
  have hlatch : Holds s (s.latch .injector) ∧ (s.latch .injector).imon = s.imon := by
    obtain e | e | e := latch_cases (f := .injector) (.inr (.inl rfl)) (by decide) s <;> rw [e]
    · exact ⟨.refl s, rfl⟩
    · exact ⟨holds_raiseFlag s _, by simp⟩
    · exact ⟨(holds_raiseFlag s _).trans (holds_openingTest _), by simp⟩
  have hlatched := latch_latched s .injector
  have hfails : s.injectorFails = (s.latch .injector).sequencerOff := rfl
  obtain ⟨hheld, himon⟩ := hlatch
  rw [hfails]
  generalize s.latch .injector = u at *
  have hoff : u.sequencerOff = u.clearSums.setSeq .off := by simp [State.sequencerOff, himon, hseq]
  rw [hoff]
  have hno : u.imon.noResponse = s.imon.noResponse := by rw [himon]
  have hins : u.imon.insulation = s.imon.insulation := by rw [himon]
  have hcount : s.imon.SameCounters u.imon := .of_eq himon
  exact ⟨rfl, rfl, rfl, rfl, hheld.pbi, hlatched, hno, hins, hcount⟩

/-- The state in which the result of a complete measurement is handed on: ISO_SW open, the sampling stopped (R105). -/
def State.measurementOver (s : State) : State := { s with imon.isoSw := .opened, mfe.insClock := none }

/-- The last sample of phase 4 completes the measurement with the sums it leaves (R105). -/
theorem exec_lastSample {s : State} {code : Int}
    (hseq : s.imon.seq = .injecting .p4 (125 * 2 ^ s.mdu.cfg.phaseCode - 1))
    (hcrop : s.mdu.cfg.crop < 125 * 2 ^ s.mdu.cfg.phaseCode) (hlo : -2047 < code) (hhi : code < 2047)
    (hdorm : s.mdu.dormantTimer ≠ .expired) :
    exec (.insulationSample code) s =
      .next (State.completeMeasurement { s with imon.sums := s.imon.sums.add .p4 code }) := by
  have hpos : 0 < 2 ^ s.mdu.cfg.phaseCode := Nat.two_pow_pos _
  have hlast : 125 * 2 ^ s.mdu.cfg.phaseCode - 1 + 1 = 125 * 2 ^ s.mdu.cfg.phaseCode := by omega
  have hsample := exec_insulationSample hseq code
  rw [takeSample_kept (.inr ⟨hlo, hhi⟩), hlast, if_neg (by omega)] at hsample
  have hadvance : ∀ u : State, u.mdu.cfg = s.mdu.cfg →
      u.advanceSample .p4 (125 * 2 ^ s.mdu.cfg.phaseCode) = u.completeMeasurement := by
    intro u hu
    have hnot : ¬ 125 * 2 ^ s.mdu.cfg.phaseCode < phaseSamples u.mdu.cfg.phaseCode := by simp [phaseSamples, hu]
    rw [State.advanceSample, if_neg hnot]
    rfl
  rw [hadvance { s with imon.sums := s.imon.sums.add .p4 code } rfl, dormantTest_unexpired (by simpa using hdorm)]
    at hsample
  exact hsample

theorem completeMeasurement_noResponse {s : State} {value : Nat} (h : s.measured = (.noResponse, value)) :
    s.completeMeasurement = s.measurementOver.finishNoResponse := by
  simp only [State.completeMeasurement, h]
  rfl

theorem completeMeasurement_result {s : State} {kind : ResultKind} {value : Nat} (h : s.measured = (kind, value))
    (hk : kind ≠ .noResponse) : s.completeMeasurement = s.measurementOver.finishResult kind value := by
  cases kind <;> simp only [State.completeMeasurement, h]
  case noResponse => exact absurd rfl hk
  all_goals rfl

/-- The result of the four sums (R109). -/
theorem measured_lastSample (s : State) (code : Int) :
    State.measured { s with imon.sums := s.imon.sums.add .p4 code } =
      resistance s.mdu.cfg.rm s.mdu.cfg.uinj s.mdu.cfg.rc (125 * 2 ^ s.mdu.cfg.phaseCode - s.mdu.cfg.crop)
        (s.imon.sums.s1 - s.imon.sums.s2 - s.imon.sums.s3 + (s.imon.sums.s4 + code)) := rfl

/-- A positive D_sum is VALID or ABOVE_RANGE (R109). -/
theorem resistance_kind {rm uinj rc kept value : Nat} {dSum : Int} {kind : ResultKind} (h : 0 < dSum)
    (hr : (kind, value) = resistance rm uinj rc kept dSum) : kind = .valid ∨ kind = .aboveRange := by
  simp only [resistance, if_neg (show ¬ dSum ≤ 0 by omega)] at hr
  split at hr
  · exact .inl (Prod.mk.inj hr).1
  · split at hr
    · exact .inr (Prod.mk.inj hr).1
    · exact .inl (Prod.mk.inj hr).1

/-- Settles O17: the sums give no response or a result, and each is handed on from the end of the measurement. -/
theorem measurementCompletes : Obligations.MeasurementCompletes := by
  refine ⟨?_, ?_⟩
  · intro code volts s hseq hcrop hlo hhi hsum hidle hvolts hdorm hinj
    have hmeasured := measured_lastSample s code
    rw [resistance, if_pos hsum] at hmeasured
    have hexec := exec_lastSample hseq hcrop hlo hhi hdorm
    rw [completeMeasurement_noResponse hmeasured] at hexec
    refine ⟨_, hexec, ?_⟩
    generalize hu : State.measurementOver { s with imon.sums := s.imon.sums.add .p4 code } = u
    have huidle : u.pbi.attempt = none := by rw [← hu]; exact hidle
    have huvolts : u.mfe.record.ustr = some volts := by rw [← hu]; exact hvolts
    unfold State.finishNoResponse
    by_cases hcount : s.imon.noResponse = 0
    · have hfirst : ¬ 2 ≤ u.imon.noResponse + 1 := by rw [← hu]; exact (by omega : ¬ 2 ≤ s.imon.noResponse + 1)
      rw [if_neg hfirst, loadOwnResult_idle (by exact huidle) (by exact huvolts), ← hu]
      exact ⟨rfl, rfl, rfl, rfl, rfl, rfl, fun _ => ⟨congrArg (· + 1) hcount, rfl, rfl, rfl⟩, fun h => by omega⟩
    · have hsecond : 2 ≤ u.imon.noResponse + 1 := by rw [← hu]; exact (by omega : 2 ≤ s.imon.noResponse + 1)
      rw [if_pos hsecond, loadOwnResult_idle (by exact huidle) (by exact huvolts)]
      generalize hw : ({ u with
        imon.noResponse := min (u.imon.noResponse + 1) 2
        pbi.result := some (TxSlot.fresh (resultPayload u.imon.intentSeq .noResponse 0 volts)) } : State) = w
      obtain ⟨hoff, hsw, hflag, hclock, hpbi, hlatched, hno, hins, -, hwarn, -⟩ :=
        injectorFails_spec w (p := .p4) (k := 125 * 2 ^ s.mdu.cfg.phaseCode - 1) (by rw [← hw, ← hu]; exact hseq)
      have htwo : w.imon.noResponse = 2 := by rw [← hw]; exact Nat.min_eq_right hsecond
      refine ⟨hsw, hflag, hclock, hins.trans (by rw [← hw, ← hu]; rfl), hwarn.trans (by rw [← hw, ← hu]; rfl), ?_,
        fun h => absurd h hcount, fun _ => ⟨hno.trans htwo, hoff, hlatched, ?_⟩⟩
      · rw [hpbi, ← hw, ← hu]
        rfl
      · rw [hpbi, ← hw, ← hu]
        rfl
  · intro code volts value kind s hseq hcrop hlo hhi hsum hres hidle hvolts hdorm
    have hkind : kind = .valid ∨ kind = .aboveRange := resistance_kind hsum hres
    have hexec := exec_lastSample hseq hcrop hlo hhi hdorm
    rw [completeMeasurement_result ((measured_lastSample s code).trans hres.symm) (by rintro rfl; simp at hkind)]
      at hexec
    refine ⟨_, hexec, ?_⟩
    generalize hu : State.measurementOver { s with imon.sums := s.imon.sums.add .p4 code } = u
    have huseq : u.imon.seq = .injecting .p4 (125 * 2 ^ s.mdu.cfg.phaseCode - 1) := by rw [← hu]; exact hseq
    obtain ⟨hpbi, hmfe, -, hintent⟩ := classify_holds (s := u) (r := value) (by simp [huseq])
    have hspec := fun h => classify_spec (s := u) h value
    have hmdu : (u.classify value).mdu = s.mdu := by rw [State.classify_rest u value |>.2.1, ← hu]; rfl
    rw [State.finishResult]
    generalize u.classify value = v at *
    rw [loadOwnResult_idle (s := { v with imon.noResponse := 0 }) (volts := volts)
      (by rw [hpbi, ← hu]; exact hidle) (by rw [hmfe, ← hu]; exact hvolts)]
    refine ⟨rfl, rfl, rfl, rfl, fun hmode => ?_, ?_, ?_, ?_⟩
    · have hclass : u.mdu.mode.classifies = true := by
        rw [← hu]
        show s.mdu.mode.classifies = true
        obtain h | h | h := hmode <;> simp [h, Mode.classifies]
      obtain ⟨hcount, hins, hwarn, hfault, -⟩ := hspec hclass
      rw [← hu] at hcount hins hwarn hfault
      exact ⟨hcount, hins, hwarn, fun hf hne => (hfault hf hne).1⟩
    · have hintent' : v.imon.intentSeq = s.imon.intentSeq := by rw [hintent, ← hu]; rfl
      rw [(enterWaiting_spec _).1]
      obtain rfl | rfl := hkind <;> simp [TxSlot.fresh, resultPayload, lowByte, hintent', ResultKind.code]
    · rw [(enterWaiting_spec _).1]
      simp [hpbi, ← hu, State.measurementOver]
    · rw [(enterWaiting_spec _).2.1]
      simp [hmdu]

end Sys2Proof.Machine
end

section
/-! PROOF. A peer's result (O37): classified, the clearance given, the interval restarted (R112 to R117, R99). -/

namespace Sys2Proof.Machine

/-! ## A PENDING session that may not open stays at a change of the insulation state (R138) -/

theorem openingTest_of_openingSafe {s : State} (h : s.OpeningSafe) : s.openingTest = s := by
  cases hp : s.slu.session.isPending
  · exact openingTest_of_not_pending hp
  · exact openingTest_of_not_mayOpen (h hp)

/-- ISO_WARN or ISO_FAULT latched where no session waits that may open (R138, R156). -/
theorem latchIso_safe {f : Flag} (hf : f = .isoWarn ∨ f = .isoFault) {s : State} (h : s.OpeningSafe) :
    s.latch f = s ∨ s.latch f = s.raiseFlag f := by
  have hcases : s.latch f = s ∨ s.latch f = s.raiseFlag f ∨ s.latch f = (s.raiseFlag f).openingTest := by
    obtain rfl | rfl := hf <;> exact latch_cases (.inl rfl) (by decide) s
  obtain e | e | e := hcases
  · exact .inl e
  · exact .inr e
  · rw [openingTest_of_openingSafe (raiseFlag_openingSafe h f)] at e
    exact .inr e

/-- What a change of the insulation state leaves where FAULT is not entered: the session but its flags, the meter, the
clearance, and the sequencer (R115, R145). -/
structure Calm (s t : State) : Prop where
  holds : Holds s t
  clearance : t.imon.clearance = s.imon.clearance
  slu : t.slu = s.slu ∨ t.slu = { s.slu with session := s.slu.session.addFlag .isoWarn }
  emt : t.emt = s.emt
  mdu : t.mdu = s.mdu
  clock : t.clock = s.clock
  latched : ∀ f, f ≠ .isoWarn → t.latched f = s.latched f

theorem moveInsulation_calm {s : State} {i : Insulation} (hknown : i = .unknown → s.imon.insulation = .unknown)
    (hfault : i = .fault → s.imon.insulation = .fault) (hsafe : s.OpeningSafe) : Calm s (s.moveInsulation i) := by
  by_cases hsame : i = s.imon.insulation
  · have hstay : s.moveInsulation i = s := if_pos hsame
    rw [hstay]
    exact ⟨.refl s, rfl, .inl rfl, rfl, rfl, rfl, fun _ _ => rfl⟩
  · simp only [State.moveInsulation, if_neg hsame]
    cases i with
    | unknown => exact absurd (hknown rfl).symm hsame
    | fault => exact absurd (hfault rfl).symm hsame
    | good =>
      exact ⟨⟨by simp, by simp, by simp [State.enterIsoGood]⟩, by simp [State.enterIsoGood], .inl (by simp), by simp,
        by simp, by simp,
        fun f _ => by simp [State.latched]⟩
    | warning =>
      have hwarn : State.OpeningSafe { s with imon.insulation := .warning } := hsafe
      obtain e | e := latchIso_safe (.inl rfl) hwarn
      · rw [State.enterIsoWarning, e]
        exact ⟨⟨by simp, by simp, by simp⟩, by simp, .inl (by simp), by simp, by simp, by simp,
          fun f _ => by simp [State.latched]⟩
      · have hflags : ∀ f, f ≠ .isoWarn → s.enterIsoWarning.latched f = s.latched f := by
          intro f hf
          rw [State.enterIsoWarning, e, State.latched, State.recompute_rest _ |>.2.2.2.2.2.2.2.2.2.1]
          exact (raiseFlag_latched _ _ _).trans (by simp [hf, State.latched])
        refine ⟨?_, ?_, .inr ?_, ?_, ?_, ?_, hflags⟩ <;> rw [State.enterIsoWarning, e]
        · exact ⟨by simp, by simp, by simp⟩
        all_goals simp

/-- Without an OPEN session the sequencer and the bus interface stay at the entry into FAULT too (R115). -/
theorem moveInsulation_closed {s : State} (i : Insulation) (hknown : i = .unknown → s.imon.insulation = .unknown)
    (hopen : s.slu.session.isOpen = false) (hsafe : s.OpeningSafe) : Holds s (s.moveInsulation i) := by
  by_cases hfault : i = .fault → s.imon.insulation = .fault
  · exact (moveInsulation_calm hknown hfault hsafe).holds
  · obtain ⟨rfl, hne⟩ := Classical.not_imp.1 hfault
    have henters : s.moveInsulation .fault = s.enterIsoFault := if_neg (Ne.symm hne)
    rw [henters]
    have hentered : s.faultEntered.OpeningSafe := hsafe
    have hclosed : s.faultLatched.slu.session.isOpen = false := by
      obtain e | e := latchIso_safe (.inr rfl) hentered <;> simp [State.faultLatched, e, hopen]
    rw [enterIsoFault_eq, endSession_closed hclosed]
    exact (faultLatched_imon s).2.trans (holds_recompute _)

/-! ## The classification at the session (R116, R138, R145) -/

theorem resultCounted_openingSafe {s : State} (h : s.OpeningSafe) (r : Nat) : (s.resultCounted r).OpeningSafe :=
  openingSafe_of_reads (s := s) (by simp [State.resultCounted]) rfl rfl (by simp [State.resultCounted]) rfl h

/-- A classification at which FAULT is not entered: the calm change, and the clearance (R114, R116). -/
theorem classify_calm {s : State} (hmode : s.mdu.mode.classifies = true) (hsafe : s.OpeningSafe) (r : Nat)
    (hfault : ¬ ((s.classify r).imon.insulation = .fault ∧ s.imon.insulation ≠ .fault)) :
    ∃ w, Calm (s.resultCounted r) w ∧ w.imon.insulation = (s.classify r).imon.insulation ∧
      s.classify r = w.giveClearance r := by
  have hins : (s.resultCounted r).imon.insulation = s.imon.insulation := (resultCounted_holds s r).2.1
  have heq := classify_eq hmode r
  have hkept := (holds_giveClearance ((s.resultCounted r).moveInsulation (s.insulationFor r)) r).2
  have hstate : ((s.resultCounted r).moveInsulation (s.insulationFor r)).imon.insulation = s.insulationFor r :=
    (moveInsulation_spec (s := s.resultCounted r) (fun h => insulationFor_unknown h)
      (fun h hne => insulationFor_fault h (by rwa [← hins]))).2.2.1
  refine ⟨_, moveInsulation_calm (fun h => insulationFor_unknown h) (fun h => ?_) (resultCounted_openingSafe hsafe r),
    by rw [heq, hkept], heq⟩
  rw [hins]
  by_contra hne
  exact hfault ⟨by rw [heq, hkept, hstate, h], hne⟩

/-- An OPEN session that goes on takes the value into its minimum (R145). -/
theorem classify_minimum {s : State} (hmode : s.mdu.mode.classifies = true) (hsafe : s.OpeningSafe) {r : Nat}
    (hfault : ¬ ((s.classify r).imon.insulation = .fault ∧ s.imon.insulation ≠ .fault)) {o : OpenRecord}
    {left : Option Nat} (ho : s.slu.session = .opened o left) :
    ∃ o', (s.classify r).slu.session = .opened o' left ∧ o'.id = o.id ∧ o'.opened = o.opened ∧
      o'.minIns = lowerMin o.minIns r := by
  obtain ⟨w, hcalm, -, e⟩ := classify_calm hmode hsafe r hfault
  have hcounted : (s.resultCounted r).slu.session = .opened { o with minIns := lowerMin o.minIns r } left := by
    simp [State.resultCounted, ho, Session.addResult]
  have hw : ∃ o', w.slu.session = .opened o' left ∧ o'.id = o.id ∧ o'.opened = o.opened ∧
      o'.minIns = lowerMin o.minIns r := by
    obtain hslu | hslu := hcalm.slu <;> rw [hslu] <;> simp [hcounted, Session.addFlag]
  obtain ⟨o', hopen, hrest⟩ := hw
  have hstay : w.giveClearance r = w := by
    obtain e | ⟨hpend, -⟩ := giveClearance_cases w r
    · exact e
    · rw [hopen] at hpend
      cases hpend
  rw [e, hstay]
  exact ⟨o', hopen, hrest⟩

/-- A PENDING session without clearance takes it from a value of fault_k or more, with the opening test (R116, R138). -/
theorem classify_clears {s : State} (hmode : s.mdu.mode.classifies = true) (hsafe : s.OpeningSafe) {r id left : Nat}
    (hp : s.slu.session = .pending id left) (hclear : s.imon.clearance = false)
    (hfault : (s.classify r).imon.insulation ≠ .fault) (hr : s.mdu.cfg.faultK ≤ r) :
    ∃ w : State, s.classify r = w.openingTest ∧ w.imon.clearance = true ∧ w.slu = s.slu ∧ w.emt = s.emt ∧
      w.mdu = s.mdu ∧ w.mfe = s.mfe ∧ w.clock = s.clock ∧ ∀ f, f ≠ .isoWarn → w.latched f = s.latched f := by
  obtain ⟨w, hcalm, hins, e⟩ := classify_calm hmode hsafe r (fun h => hfault h.1)
  have hcounted : (s.resultCounted r).slu = s.slu := by
    have hsession : s.slu.session.addResult r = s.slu.session := by rw [hp]; rfl
    rw [State.resultCounted, hsession]
  have hslu : w.slu = s.slu := by
    have hsession : s.slu.session.addFlag .isoWarn = s.slu.session := by rw [hp]; rfl
    obtain h | h := hcalm.slu <;> rw [h, hcounted]
    rw [hsession]
  have hwclear : w.imon.clearance = false := by
    rw [hcalm.clearance]
    simpa [State.resultCounted] using hclear
  have hgives : w.giveClearance r = State.openingTest { w with imon.clearance := true } := by
    refine if_pos ⟨by rw [hslu, hp]; rfl, ?_, by rwa [hins], by rw [hwclear]; rfl⟩
    rw [hcalm.mdu]
    exact hr
  exact ⟨{ w with imon.clearance := true }, e.trans hgives, rfl, hslu, hcalm.emt, hcalm.mdu, hcalm.holds.mfe,
    hcalm.clock, hcalm.latched⟩

/-- Without a value that clears, and in FAULT, no clearance is given (R116). -/
theorem classify_unclear {s : State} (hmode : s.mdu.mode.classifies = true) (hsafe : s.OpeningSafe) {r : Nat}
    (hclear : s.imon.clearance = false)
    (h : s.slu.session.isPending = true → r < s.mdu.cfg.faultK ∨ (s.classify r).imon.insulation = .fault) :
    (s.classify r).imon.clearance = false := by
  by_cases hfault : (s.classify r).imon.insulation = .fault ∧ s.imon.insulation ≠ .fault
  · obtain ⟨-, -, -, henters, -⟩ := classify_spec hmode r
    exact (henters hfault.1 hfault.2).2.1
  · obtain ⟨w, hcalm, hins, e⟩ := classify_calm hmode hsafe r hfault
    have hwclear : w.imon.clearance = false := by
      rw [hcalm.clearance]
      simpa [State.resultCounted] using hclear
    obtain hstay | ⟨hpend, hr, hne, -⟩ := giveClearance_cases w r
    · rw [e, hstay, hwclear]
    · have hwas : s.slu.session.isPending = true := by
        obtain hslu | hslu := hcalm.slu <;> rw [hslu] at hpend <;> simpa [State.resultCounted] using hpend
      obtain hlow | hin := h hwas
      · rw [hcalm.mdu] at hr
        exact absurd hr (Nat.not_le.2 hlow)
      · exact absurd (hins.trans hin) hne

/-- Without an OPEN session the bus interface stays at a classification (R100). -/
theorem classify_random {s : State} (hopen : s.slu.session.isOpen = false) (hsafe : s.OpeningSafe) (r : Nat) :
    (s.classify r).pbi = s.pbi := by
  cases hmode : s.mdu.mode.classifies
  · rw [classify_idle hmode]
  · have hcounted : (s.resultCounted r).slu.session.isOpen = false := by simpa [State.resultCounted] using hopen
    have hmoved := moveInsulation_closed (s.insulationFor r) (fun h => insulationFor_unknown h) hcounted
      (resultCounted_openingSafe hsafe r)
    rw [classify_eq hmode]
    exact ((holds_giveClearance _ r).1.pbi.trans hmoved.pbi)

/-! ## The restart of the interval (R99) -/

theorem restartInterval_spec (s : State) :
    s.restartInterval.latched = s.latched ∧ s.restartInterval.imon.insulation = s.imon.insulation ∧
    s.restartInterval.imon.clearance = s.imon.clearance ∧ s.imon.SameCounters s.restartInterval.imon ∧
    ((∃ left, s.imon.seq = .waiting left ∨ s.imon.seq = .holdoff left) →
      s.restartInterval.imon.seq = .waiting
        ((s.mdu.cfg.interval + s.restartInterval.pbi.random % (s.mdu.cfg.interval / 8 + 1)) * 1000000) ∧
      s.restartInterval.pbi.random = (s.pbi.random * 25173 + 13849) % 65536) ∧
    ((∀ left, s.imon.seq ≠ .waiting left ∧ s.imon.seq ≠ .holdoff left) → s.restartInterval = s) := by
  obtain ⟨hpbi, hseq, -, -, -, -, hins, hclear, hcount⟩ := enterWaiting_spec s
  have hflags : s.enterWaiting.latched = s.latched := by
    funext f
    simp [State.latched]
  have hrandom : s.enterWaiting.pbi.random = (s.pbi.random * 25173 + 13849) % 65536 := by rw [hpbi]
  unfold State.restartInterval
  split
  · next left h => exact ⟨hflags, hins, hclear, hcount, fun _ => ⟨hseq, hrandom⟩, fun hne => absurd h (hne left).1⟩
  · next left h => exact ⟨hflags, hins, hclear, hcount, fun _ => ⟨hseq, hrandom⟩, fun hne => absurd h (hne left).2⟩
  · next hw hh =>
    refine ⟨rfl, rfl, rfl, .of_eq rfl, fun ⟨left, h⟩ => ?_, fun _ => rfl⟩
    exact (h.elim (hw left) (hh left)).elim

/-! ## The first interval of a session (R125) -/

theorem intervalMinutes_eq {s : State} {minutes : Nat} (h : DemandMinutes s.mdu.cfg.demandCode minutes) :
    s.intervalMinutes = minutes ∧ s.intervalSeconds = 60 * minutes ∧ 0 < 60 * minutes := by
  obtain ⟨hc, rfl⟩ | ⟨hc, rfl⟩ | ⟨hc, rfl⟩ := h <;> simp [State.intervalSeconds, State.intervalMinutes, hc]

theorem alignedInterval_spec {len : Nat} (hpos : 0 < len) (second : Nat) :
    AlignedTo len second (alignedInterval len second) :=
  ⟨⟨(second / len + 1) * len, (Nat.div_lt_iff_lt_mul hpos).1 (Nat.lt_succ_self _), by
    rw [Nat.add_mul, Nat.one_mul]
    exact Nat.add_le_add_right (Nat.div_mul_le_self _ _) _, Nat.mul_mod_left _ _, rfl⟩, rfl, rfl⟩

/-- The interval that starts at the opening is aligned to the clock, or runs from the opening (R125). -/
theorem firstInterval_spec {s : State} {minutes : Nat} (h : DemandMinutes s.mdu.cfg.demandCode minutes) :
    FirstInterval (60 * minutes) s.clock s.firstInterval := by
  obtain ⟨-, hlen, hpos⟩ := intervalMinutes_eq h
  unfold FirstInterval State.firstInterval
  rw [hlen]
  split
  · exact alignedInterval_spec hpos s.clock.second
  · exact ⟨rfl, rfl, rfl⟩

/-- The entry into OPEN, with its record, its stamp and its meter (R120, R125, R138, R144). -/
theorem openSession_spec (s : State) (id : Nat) {minutes : Nat} (h : DemandMinutes s.mdu.cfg.demandCode minutes) :
    ∃ i, (s.openSession id).slu = { s.slu with
        session := .opened
          { id := id, station := s.mdu.station, phase := s.mdu.phase,
            opened :=
              if s.clock.valid then { day := s.clock.day, second := s.clock.second, valid := true }
              else { day := 0, second := 0, valid := false },
            minIns := none, flags := s.flu.flags } none } ∧
      (s.openSession id).emt = { State.reset.emt with qraw := s.emt.qraw, active := true, interval := some i } ∧
      FirstInterval (60 * minutes) s.clock i := by
  refine ⟨s.firstInterval, by simp [State.newRecord, Clock.stamp], ?_, firstInterval_spec h⟩
  have hmeter : (s.openSession id).emt = ({ s with slu.session := .opened (s.newRecord id) none }.meterOpens).emt := by
    simp [State.openSession]
  exact hmeter.trans rfl

/-! ## The arrival (R112) -/

/-- A VALID or ABOVE_RANGE result is classified and restarts the interval (R99, R112). -/
theorem exec_isoResultArrival {s : State} {telegram p : List Byte} {source r : Nat} (hh : s.Hears)
    (hdorm : s.mdu.dormantTimer ≠ .expired) (hs : source ≠ s.mdu.station)
    (hc : checkTelegram telegram = some { source := source, kind := .isoResult, payload := p })
    (hr : (rd8 p 1 = 0 ∧ r = min (rd16 p 2) 10000) ∨ (rd8 p 1 = 1 ∧ r = 10000)) :
    exec (.isoResultArrival telegram) s =
      .next ((s.passedOn { source := source, kind := .isoResult, payload := p }).classify r).restartInterval := by
  have hvalue : classifiedValue (resultKind p) (rd16 p 2) = some r := by
    obtain ⟨hk, rfl⟩ | ⟨hk, rfl⟩ := hr <;> simp [resultKind, classifiedValue, hk]
  have hpass : ∀ u, State.peerResult { source := source, kind := .isoResult, payload := p } u =
      (u.classify r).restartInterval := by
    intro u
    simp only [State.peerResult, hvalue]
  have harrive := arrive_heard State.peerResult hh hc hs
  rw [hpass, dormantTest_unexpired (by rwa [State.restartInterval_rest _ |>.2.1, State.classify_rest _ _ |>.2.1,
    passedOn_mdu rfl])] at harrive
  exact congrArg Host.Outcome.next harrive

/-- A result of another kind is passed on and no more (R112, R179). -/
theorem exec_isoResultArrival_unclassified {s : State} {telegram p : List Byte} {source : Nat} (hh : s.Hears)
    (hs : source ≠ s.mdu.station)
    (hc : checkTelegram telegram = some { source := source, kind := .isoResult, payload := p }) (hk : 2 ≤ rd8 p 1) :
    exec (.isoResultArrival telegram) s =
      .next (s.passedOn { source := source, kind := .isoResult, payload := p }) := by
  have hvalue : classifiedValue (resultKind p) (rd16 p 2) = none := by
    unfold resultKind
    split
    · next h => omega
    · next h => omega
    · rfl
    · rfl
  have hpass : ∀ u, State.peerResult { source := source, kind := .isoResult, payload := p } u = u := by
    intro u
    simp only [State.peerResult, hvalue]
  have harrive := arrive_heard State.peerResult hh hc hs
  rw [hpass, dormantTest_unwakeful rfl rfl (by simp) (by simp) (by simp)] at harrive
  exact congrArg Host.Outcome.next harrive

/-- Settles O37: the classification, the clearance with its opening test, and the interval. -/
theorem peerResultClassified : Obligations.PeerResultClassified := by
  refine ⟨?_, ?_⟩
  · intro telegram p source r minutes s hh hmode hdorm hsafe hs hminutes hc hr
    refine ⟨_, exec_isoResultArrival hh hdorm hs hc hr, ?_⟩
    generalize hu : s.passedOn { source := source, kind := .isoResult, payload := p } = u
    have hmdu : u.mdu = s.mdu := by rw [← hu]; exact passedOn_mdu rfl
    have himon : u.imon = s.imon := by simp [← hu]
    have hslu : u.slu = s.slu := by simp [← hu]
    have hemt : u.emt = s.emt := by simp [← hu]
    have hclock : u.clock = s.clock := by simp [← hu]
    have hmfe : u.mfe = s.mfe := by simp [← hu]
    have hflu : u.flu = s.flu := by simp [← hu]
    have hrandom : u.pbi.random = s.pbi.random := by simp [← hu]
    have hclass : u.mdu.mode.classifies = true := by
      rw [hmdu]
      obtain h | h | h := hmode <;> simp [h, Mode.classifies]
    have husafe : u.OpeningSafe := openingSafe_of_reads (by rw [hslu]) hmdu (by rw [hmfe]) (by rw [himon]) hflu hsafe
    obtain ⟨hcount, hins, hwarn, hfault, hstay⟩ := classify_spec hclass r
    have hmin := fun o left => classify_minimum (r := r) (o := o) (left := left) hclass husafe
    have hclears := fun id left => classify_clears (r := r) (id := id) (left := left) hclass husafe
    have hunclear := classify_unclear (r := r) hclass husafe
    have hkeeps := classify_random (r := r) (s := u) (hsafe := husafe)
    have hholds := classify_holds (s := u) (r := r)
    have hcfg : (u.classify r).mdu = s.mdu := (State.classify_rest u r).2.1.trans hmdu
    rw [SeqStays] at hstay
    generalize u.classify r = v at *
    rw [himon, hslu] at hins
    rw [hmdu] at hcount hins hclears hunclear
    rw [himon] at hcount hwarn hfault hmin hunclear hstay
    simp only [himon, hslu] at hmin hclears hunclear hkeeps hholds
    obtain ⟨hflags, htins, htclear, htcount, htseq, htstay⟩ := restartInterval_spec v
    obtain ⟨-, -, -, -, -, htshe, htemt, htslu, htflu, -⟩ := State.restartInterval_rest v
    rw [hflags, htins, htclear, htshe, htslu, htemt, htflu]
    refine ⟨countersAfter_congr hcount htcount, ?_, hwarn, hfault, fun o left ho hnot => ?_,
      fun id left hp hclear hnf hr' => ?_, fun hp hclear => ?_, fun ⟨left, hq⟩ => ?_, fun hq => ?_⟩
    · rw [insulationAfter_iff htcount, htins]
      exact (insulationAfter_iff (.of_eq rfl)).1 hins
    · obtain ⟨o', hopen, hid, hstamp, hlow⟩ := hmin o left hnot ho
      exact ⟨o', hopen, hid, hstamp, hlow.trans (by cases o.minIns <;> rfl)⟩
    · obtain ⟨w, hw, hwclear, hwslu, hwemt, hwmdu, hwmfe, hwclock, hwflags⟩ := hclears id left hp hclear hnf hr'
      have hmay : w.mayOpen = true ↔ s.mdu.mode = .run ∧ s.mfe.line = .good ∧ s.latched .dupId = false ∧
          s.latched .thermSensor = false ∧ s.latched .frontEnd = false := by
        have hsflags : ∀ f, u.latched f = s.latched f := fun f => by simp [State.latched, hflu]
        rw [mayOpen_iff, hwmdu, hwmfe, hmfe, hwflags _ (by decide), hwflags _ (by decide),
          hwflags _ (by decide), hsflags, hsflags, hsflags]
        simp [hwclear]
      rw [hw]
      refine ⟨by simpa using hwclear, fun hopen => ?_, fun hnot => ?_⟩
      · have hopens : w.openingTest = w.openSession id := by
          simp [State.openingTest, hwslu, hp, hmay.2 hopen]
        obtain ⟨i, hoslu, hoemt, hi⟩ := openSession_spec w id (minutes := minutes) (by rwa [hwmdu])
        rw [hopens, hoslu, hoemt]
        simp only [hwslu, hwmdu, hwclock, hclock, hwemt, hemt, State.openSession_rest] at hi ⊢
        exact ⟨i, trivial, rfl, hi⟩
      · rw [openingTest_of_not_mayOpen (Bool.eq_false_iff.2 fun h => hnot (hmay.1 h)), hwslu, hwemt, hemt]
        exact ⟨rfl, rfl⟩
    · refine hunclear hclear fun hpend => ?_
      cases hq : s.slu.session with
      | pending id left => exact hp id left hq
      | _ => simp [hq, Session.isPending] at hpend
    · have hv : ∃ left, v.imon.seq = .waiting left ∨ v.imon.seq = .holdoff left := by
        obtain h | ⟨_, left', -, h⟩ := hstay
        · exact ⟨left, by rwa [h]⟩
        · exact ⟨left', .inl h⟩
      obtain ⟨hseq, hrand⟩ := htseq hv
      rw [hcfg] at hseq
      exact ⟨hseq, fun hopen => by rw [hrand, hkeeps hopen, hrandom]⟩
    · obtain ⟨hpbi, -, hseq, -⟩ := hholds fun left => (hq left).1
      rw [htstay (by rwa [hseq]), hpbi]
      exact ⟨hseq, hrandom⟩
  · intro telegram p source s hh hs hc hk
    exact ⟨_, exec_isoResultArrival_unclassified hh hs hc hk, by simp, by simp, by simp, by simp, by simp, by simp,
      passedOn_mdu rfl, by simp, by simp, by simp, by simp⟩

end Sys2Proof.Machine
end

section
/-! PROOF. The accepted CONTRACT (O31), and the clock with its demand intervals (O42). -/

namespace Sys2Proof.Machine

/-! ## The clock offered a time (R52, R53) -/

theorem offerTime_clock (s : State) (day second : Nat) :
    (s.offerTime day second).clock = if second ≤ 86399 then clockSet day second else s.clock := by
  unfold State.offerTime State.meterJump
  repeat' split
  all_goals rfl

/-- A set that is a time jump reaches the meter, and no other offer does (R53, R128). -/
theorem offerTime_emt (s : State) (day second : Nat) :
    (s.offerTime day second).emt =
      if second ≤ 86399 ∧ s.clock.jumps day second = true then
        (State.meterJump { s with clock := clockSet day second }).emt
      else s.emt := by
  unfold State.offerTime
  by_cases hin : second ≤ 86399
  · by_cases hj : s.clock.jumps day second = true <;> simp [hin, hj]
  · simp [hin]

/-- A set is a time jump when no time was valid, or when it moves the time by more than 2 s (R53). -/
theorem jumps_iff (c : Clock) (day second : Nat) :
    c.jumps day second = true ↔
      c.valid = false ∨ c.day * 86400 + c.second + 2 < day * 86400 + second ∨
        day * 86400 + second + 2 < c.day * 86400 + c.second := by
  have hmoves : 2 < ((clockSet day second).total - c.total).natAbs ↔
      c.day * 86400 + c.second + 2 < day * 86400 + second ∨ day * 86400 + second + 2 < c.day * 86400 + c.second := by
    simp only [Clock.total, clockSet]
    omega
  rw [Clock.jumps, Bool.or_eq_true, Bool.not_eq_true', decide_eq_true_iff, hmoves]

/-! ## The record of an accepted CONTRACT (R43 to R47) -/

/-- The state with an accepted CONTRACT in the record, before the session unit's contract event (R43, R50, R52). -/
def State.contractTaken (source : Nat) (p : List Byte) (s : State) : State :=
  State.recompute
    { (State.offerTime (contractDay p) (contractSecond p)
        { s with pvt.record := some (contractOf source p), pvt.lossTimer := some lossTime }) with
      pvt.halted := haltedAfter s.pvt.halted (contractOf source p) }

theorem acceptContract_eq (s : State) (source : Nat) (p : List Byte) :
    s.acceptContract source p =
      (s.contractTaken source p).sessionContract (contractOf source p).plugged (contractOf source p).session := rfl

@[simp] theorem State.contractTaken_rest (s : State) (source : Nat) (p : List Byte) :
    (s.contractTaken source p).pins = s.pins ∧ (s.contractTaken source p).mdu = s.mdu ∧
    (s.contractTaken source p).mfe = s.mfe ∧ (s.contractTaken source p).pbi = s.pbi ∧
    (s.contractTaken source p).imon = s.imon ∧ (s.contractTaken source p).slu = s.slu ∧
    (s.contractTaken source p).flu = s.flu ∧ (s.contractTaken source p).store = s.store ∧
    (s.contractTaken source p).pvt = { s.pvt with
      record := some (contractOf source p), lossTimer := some lossTime,
      halted := haltedAfter s.pvt.halted (contractOf source p) } ∧
    (s.contractTaken source p).clock =
      if contractSecond p ≤ 86399 then clockSet (contractDay p) (contractSecond p) else s.clock := by
  simp [State.contractTaken, offerTime_clock]

theorem contractTaken_emt (s : State) (source : Nat) (p : List Byte) :
    (s.contractTaken source p).emt =
      if contractSecond p ≤ 86399 ∧ s.clock.jumps (contractDay p) (contractSecond p) = true then
        (State.meterJump { s with clock := clockSet (contractDay p) (contractSecond p) }).emt
      else s.emt := by
  have hjump : ∀ u : State, u.emt = s.emt → u.mdu = s.mdu → u.clock = s.clock →
      (State.meterJump { u with clock := clockSet (contractDay p) (contractSecond p) }).emt =
        (State.meterJump { s with clock := clockSet (contractDay p) (contractSecond p) }).emt := by
    intro u hemt hmdu hclock
    simp only [State.meterJump, State.intervalSeconds, State.intervalMinutes, hemt, hmdu]
    split <;> rfl
  simp only [State.contractTaken, State.recompute_rest, offerTime_emt]
  rw [hjump { s with pvt.record := some (contractOf source p), pvt.lossTimer := some lossTime } rfl rfl rfl]

/-- A CONTRACT that is accepted takes the record, and its event goes to the session unit (R43). -/
theorem exec_contractAccepted {s : State} {source : Nat} {t p : List Byte} (hh : s.Hears) (hs : source ≠ s.mdu.station)
    (hc : checkTelegram t = some { source := source, kind := .contract, payload := p })
    (ha : Accepts s.pvt.view s.pvt.record source (rd8 p 0)) :
    exec (.contractArrival t) s =
      .next (((s.passedOn { source := source, kind := .contract, payload := p }).contractTaken source p).sessionContract
        (contractOf source p).plugged (contractOf source p).session) := by
  have hexec := exec_contractArrival hh hs hc
  generalize hrx : ({ source := source, kind := .contract, payload := p } : Received) = rx at *
  have hrec : (s.passedOn rx).pvt.record = s.pvt.record := passedOn_record_inlet (by rw [← hrx]; rfl)
  have haccept : (s.passedOn rx).contractArrives source p = (s.passedOn rx).acceptContract source p := by
    unfold Accepts at ha
    split at ha
    · next hr => simp [State.contractArrives, hrec, hr]
    · next r hr =>
      split at ha
      · next hst =>
        split at ha
        · next hsrc => simp [State.contractArrives, hrec, hr, hst, hsrc, Ne.symm ha]
        · next hsrc =>
          have hview : showsInlet (s.passedOn rx).pvt.view r.source = false := by
            rw [passedOn_view, showsInlet, entryOf_putEntry_other (by simpa [State.senderEntry, ← hrx] using hsrc)]
            exact ha
          simp [State.contractArrives, hrec, hr, hst, Ne.symm hsrc, hview]
      · exact ha.elim
      · next hst => simp [State.contractArrives, hrec, hr, hst]
  rw [haccept, acceptContract_eq] at hexec
  exact hexec

/-- The contract of the OPEN session's own id, plugged, leaves the session unit as it is (R141). -/
theorem sessionContract_same {s : State} {o : OpenRecord} {left : Option Nat} (ho : s.slu.session = .opened o left) :
    s.sessionContract true o.id = s := by
  simp [State.sessionContract, ho]

/-! ## Demand intervals (R126, R128) -/

/-- The meter after a time jump while a session is metered (R128). -/
theorem meterJump_emt {s : State} {i : Interval} (hact : s.emt.active = true) (hi : s.emt.interval = some i) :
    (s.meterJump).emt = { s.emt with
      peak := offerPeak s.emt.peak i s.emt.count, count := 0,
      interval := some (alignedInterval s.intervalSeconds s.clock.second) } := by
  simp [State.meterJump, hact, Meter.peakAfter, hi]

/-- The meter at a one-second advance, the clock advanced (R126). -/
theorem meterSecond_metered {s : State} {i : Interval} (hact : s.emt.active = true) (hi : s.emt.interval = some i) :
    s.meterSecond =
      if i.ended s.intervalSeconds s.clock.second then { s with emt := s.emt.regularEnd s.intervalMinutes i }
        else s := by
  simp [State.meterSecond, hact, hi]

theorem meterSecond_idle {s : State} (hact : s.emt.active = false) : s.meterSecond = s := by
  simp [State.meterSecond, hact]

/-- The clock one second later, day 65535 wrapping to 0 (R52). -/
theorem advance_eq (c : Clock) :
    c.advance = { c with
      second := if c.second < 86399 then c.second + 1 else 0
      day := if c.second < 86399 then c.day else if c.day < 65535 then c.day + 1 else 0
      toAdvance := 1000000 } := by
  unfold Clock.advance
  split <;> rfl

theorem exec_oneSecondAdvance {s : State} (h : s.clock.toAdvance < 1000000) :
    exec .oneSecondAdvance s = .next (State.meterSecond { s with clock := s.clock.advance }) :=
  congrArg Host.Outcome.next (if_pos h)

/-- Settles O42: the second advances the clock and may end an interval; a set of the clock may end one too. -/
theorem oneSecondAdvance : Obligations.OneSecondAdvance := by
  refine ⟨fun s h => congrArg Host.Outcome.next (if_neg (Nat.not_lt.2 (Nat.le_of_eq h.symm))), ?_, ?_⟩
  · intro minutes c s hminutes hadv hc
    obtain ⟨hmin, hsec, -⟩ := intervalMinutes_eq (s := { s with clock := c }) hminutes
    have hexec := exec_oneSecondAdvance hadv
    rw [advance_eq, ← hc] at hexec
    refine ⟨fun hact => ?_, fun i hact hi => ⟨fun hnot => ?_, fun hend => ?_⟩⟩
    · rw [hexec, meterSecond_idle (by exact hact)]
    · rw [hexec, meterSecond_metered (i := i) (by exact hact) (by exact hi), if_neg]
      simpa [Interval.ended, hsec] using hnot
    · rw [meterSecond_metered (i := i) (by exact hact) (by exact hi),
        if_pos (by simpa [Interval.ended, hsec] using hend), hmin] at hexec
      refine ⟨_, hexec, offerPeak_after _ _ _, ?_⟩
      cases hb : i.basis <;> simp [Meter.regularEnd, Interval.next, Interval.indexAfter, hb]
  · intro telegram p source minutes o left i s hh hs hminutes hc ha ho hplug hid hact hi
    obtain ⟨-, hsec, hpos⟩ := intervalMinutes_eq hminutes
    have hexec := exec_contractAccepted hh hs hc ha
    have hplugged : (contractOf source p).plugged = true := by simp [contractOf, hplug]
    have hsession : (contractOf source p).session = o.id := hid
    rw [hplugged, hsession, sessionContract_same (left := left) (by simpa using ho)] at hexec
    refine ⟨_, hexec, by simp, fun hin hjump => ?_, fun hnone => ?_⟩
    · have hj : s.clock.jumps (contractDay p) (contractSecond p) = true := (jumps_iff s.clock _ _).2 hjump
      rw [contractTaken_emt, if_pos ⟨hin, by simpa using hj⟩,
        meterJump_emt (i := i) (by simpa using hact) (by simpa using hi)]
      refine ⟨alignedInterval (60 * minutes) (rd32 p 14), ?_, ?_, alignedInterval_spec hpos _⟩
      · have hlen : ∀ u : State, u.mdu.cfg = s.mdu.cfg → u.intervalSeconds = 60 * minutes := by
          intro u hu
          rw [← hsec, State.intervalSeconds, State.intervalMinutes, hu]
          rfl
        simp only [hlen, State.passedOn_rest, State.passedOn_bus]
        rfl
      · simpa using offerPeak_after s.emt.peak i s.emt.count
    · rw [contractTaken_emt, if_neg]
      · simp
      · rintro ⟨hin, hj⟩
        rw [(State.passedOn_rest s _).2.1] at hj
        have hin' : rd32 p 14 ≤ 86399 := hin
        obtain hout | ⟨hvalid, hlo, hhi⟩ := hnone
        · omega
        · obtain h | h | h := (jumps_iff s.clock (rd16 p 12) (rd32 p 14)).1 hj
          · simp [hvalid] at h
          · omega
          · omega

/-! ## The session unit at an accepted CONTRACT (R137, R139, R141, R147) -/

/-- An IDLE session becomes PENDING for an id that may start one (R137). -/
theorem offerSession_starts {s : State} {plugged : Bool} {id : Nat} (hidle : s.slu.session.isIdle = true)
    (h : Startable s.mdu.mode plugged id s.pvt.halted) : s.offerSession plugged id = s.goPending id := by
  obtain ⟨hmode, hplug, hzero, hhalt⟩ := h
  rw [← enterPending_eq]
  exact if_pos ⟨hidle, hmode, hplug, hzero, hhalt⟩

theorem offerSession_stays {s : State} {plugged : Bool} {id : Nat}
    (h : ¬ Startable s.mdu.mode plugged id s.pvt.halted) : s.offerSession plugged id = s := by
  obtain ⟨-, hmode, hplug, hzero, hhalt, -⟩ | e := offerSession_cases s plugged id
  · exact absurd ⟨hmode, hplug, hzero, hhalt⟩ h
  · exact e

/-- What the return of a PENDING session to IDLE leaves (R116, R139). -/
theorem returnToIdle_pending {s : State} (h : s.slu.session.isPending = true) :
    s.returnToIdle.slu = { s.slu with session := .idle } ∧ s.returnToIdle.imon.clearance = false := by
  refine ⟨returnToIdle_slu h, ?_⟩
  obtain ⟨-, e⟩ | ⟨hn, -⟩ := returnToIdle_cases s
  · have hclear : ∀ u : State, u.monitorIdle.imon.clearance = false := by
      intro u
      unfold State.monitorIdle
      split <;> simp
    rw [e]
    simpa using hclear _
  · simp [h] at hn

theorem Recorded.mdu {r : OpenRecord} {reason : EndReason} {closed : Stamp} {s u : State}
    (h : Recorded r reason closed s u) : u.mdu = s.mdu := by
  cases h <;> simp

/-- The end of an OPEN session with a free closing buffer: the session is IDLE, and the record's session is offered
(R146, R147). -/
theorem endSession_offers {s : State} {o : OpenRecord} {left : Option Nat} {c : Contract}
    (ho : s.slu.session = .opened o left)
    (hb : s.slu.buffer = none) (hrec : s.pvt.record = some c) (reason : EndReason) :
    ∃ v, v.slu.session = .idle ∧ v.mdu = s.mdu ∧ v.pvt = s.pvt ∧ Holds s v ∧
      s.endSession reason = v.offerSession c.plugged c.session := by
  obtain ⟨b, hb', -⟩ | ⟨-, u, hu, e⟩ := endSession_steps ho reason
  · simp [hb] at hb'
  · have hpvt := hu.pvt
    have hmdu := hu.mdu
    have hretest : u.idleAfterEnd = u.idled.offerSession c.plugged c.session := by
      rw [idleAfterEnd_eq, State.retest, State.idled_rest u |>.2.2.2.2.1, hpvt,
          State.sessionDeparts_rest s reason |>.2.2.2.2.1,
        hrec]
    exact ⟨u.idled, by simp, by simp [hmdu], by simp [hpvt],
      (holds_sessionDeparts s reason).trans (hu.holds.trans (holds_idled u)), e.trans hretest⟩

/-- A CONTRACT that starts a session makes it PENDING, with all else of the monitor and the bus held (R137, R147). -/
theorem sessionContract_starts {s : State} {c : Contract} (hrec : s.pvt.record = some c)
    (hst : Startable s.mdu.mode c.plugged c.session s.pvt.halted)
    (h : Starts s.slu.session s.slu.buffer.isNone c.session) :
    ∃ v, Holds s v ∧ s.sessionContract c.plugged c.session = v.goPending c.session := by
  obtain ⟨hmode, hplug, -⟩ := id hst
  have hhandles : s.mdu.mode.handlesSessions = true := by obtain h | h := hmode <;> simp [h, Mode.handlesSessions]
  rw [State.sessionContract, if_pos hhandles]
  cases hq : s.slu.session with
  | idle => exact ⟨s, .refl s, offerSession_starts (by simp [hq, Session.isIdle]) hst⟩
  | pending own left =>
    have hne : c.session ≠ own := by rw [hq] at h; exact Ne.symm h
    have hpend : s.slu.session.isPending = true := by simp [hq, Session.isPending]
    refine ⟨s.returnToIdle, holds_returnToIdle s, ?_⟩
    simp only [hplug, Bool.not_true, Bool.false_eq_true, if_false, if_pos hne]
    rw [hplug] at hst
    exact offerSession_starts (by simp [(returnToIdle_pending hpend).1, Session.isIdle]) (by simpa using hst)
  | opened o left =>
    obtain ⟨hne, hfree⟩ : o.id ≠ c.session ∧ s.slu.buffer.isNone = true := by rw [hq] at h; exact h
    obtain ⟨v, hidle, hmdu, hpvt, hheld, e⟩ := endSession_offers hq (by simpa using hfree) hrec .sessionChanged
    refine ⟨v, hheld, ?_⟩
    simp only [hplug, Bool.not_true, Bool.false_eq_true, if_false, if_pos (Ne.symm hne)]
    rw [e]
    exact offerSession_starts (by simp [hidle, Session.isIdle]) (by rwa [hmdu, hpvt])
  | ended o reason closed => rw [hq] at h; exact h.elim

/-- The reason with which a CONTRACT ends an OPEN session (R141). -/
def Contract.endReason (c : Contract) : EndReason := if c.plugged = true then .sessionChanged else .unplugged

/-- The end of the OPEN session by a CONTRACT that does not carry its id plugged (R141). -/
theorem sessionContract_ends {s : State} {c : Contract} (hhandles : s.mdu.mode.handlesSessions = true) {o : OpenRecord}
    {left : Option Nat} (ho : s.slu.session = .opened o left) (hne : ¬ (c.plugged = true ∧ c.session = o.id)) :
    s.sessionContract c.plugged c.session = s.endSession c.endReason := by
  rw [State.sessionContract, if_pos hhandles, ho]
  cases hplug : c.plugged
  · simp [Contract.endReason, hplug]
  · have hid : c.session ≠ o.id := fun h => hne ⟨hplug, h⟩
    simp [Contract.endReason, hplug, hid]

/-- What a CONTRACT that starts no session leaves of an OPEN one (R141, R143, R146). -/
theorem sessionContract_opened {s : State} {c : Contract} (hhandles : s.mdu.mode.handlesSessions = true)
    (hrec : s.pvt.record = some c)
    (hnot : ¬ (Startable s.mdu.mode c.plugged c.session s.pvt.halted ∧
      Starts s.slu.session s.slu.buffer.isNone c.session))
    {o : OpenRecord} {left : Option Nat} (ho : s.slu.session = .opened o left) :
    Holds s (s.sessionContract c.plugged c.session) ∧
    if c.plugged = true ∧ c.session = o.id then (s.sessionContract c.plugged c.session).slu = s.slu
    else if s.slu.buffer = none then (s.sessionContract c.plugged c.session).slu.session = .idle
    else ∃ closed, (s.sessionContract c.plugged c.session).slu = { s.slu with
      session := .ended o c.endReason closed } := by
  by_cases hsame : c.plugged = true ∧ c.session = o.id
  · obtain ⟨hplug, hid⟩ := hsame
    rw [if_pos ⟨hplug, hid⟩, hplug, hid, sessionContract_same ho]
    exact ⟨.refl s, rfl⟩
  · rw [if_neg hsame, sessionContract_ends hhandles ho hsame]
    by_cases hb : s.slu.buffer = none
    · obtain ⟨v, hidle, hmdu, hpvt, hheld, e⟩ := endSession_offers ho hb hrec c.endReason
      have hstays : ¬ Startable v.mdu.mode c.plugged c.session v.pvt.halted := by
        rw [hmdu, hpvt]
        refine fun hst => hnot ⟨hst, ?_⟩
        rw [ho]
        exact ⟨fun hid => hsame ⟨hst.2.1, hid.symm⟩, by simp [hb]⟩
      rw [if_pos hb, e, offerSession_stays hstays]
      exact ⟨hheld, hidle⟩
    · obtain ⟨b, -, e⟩ | ⟨hnone, -⟩ := endSession_steps ho c.endReason
      · rw [if_neg hb, e]
        exact ⟨holds_sessionDeparts s _, s.clock.stamp, (sessionDeparts_opened ho _).1⟩
      · exact absurd hnone hb

/-- What a CONTRACT that starts no session leaves of a PENDING one (R137, R139). -/
theorem sessionContract_pending {s : State} {c : Contract} (hhandles : s.mdu.mode.handlesSessions = true)
    (hnot : ¬ (Startable s.mdu.mode c.plugged c.session s.pvt.halted ∧
      Starts s.slu.session s.slu.buffer.isNone c.session))
    {own left : Nat} (hp : s.slu.session = .pending own left) :
    if c.plugged = true ∧ c.session = own then s.sessionContract c.plugged c.session = s
    else s.sessionContract c.plugged c.session = s.returnToIdle := by
  rw [State.sessionContract, if_pos hhandles, hp]
  cases hplug : c.plugged
  · simp
  · by_cases hid : c.session = own
    · simp [hid]
    · have hstays : ¬ Startable s.returnToIdle.mdu.mode true c.session s.returnToIdle.pvt.halted := by
        intro hst
        refine hnot ⟨by simpa [hplug] using hst, ?_⟩
        rw [hp]
        exact Ne.symm hid
      simp [hid, offerSession_stays hstays]

/-- Settles O31: the record is taken, and its contract event starts, keeps or ends the session. -/
theorem contractAccepted : Obligations.ContractAccepted := by
  intro telegram p source s hh hs hc ha
  refine ⟨_, contractOf source p, exec_contractAccepted hh hs hc ha, ?_⟩
  generalize hu : (s.passedOn { source := source, kind := .contract, payload := p }).contractTaken source p = u
  have hmode : u.mdu.mode = s.mdu.mode := by simp [← hu]
  have hslu : u.slu = s.slu := by simp [← hu]
  have hseq : u.imon.seq = s.imon.seq := by simp [← hu]
  have hrandom : u.pbi.random = s.pbi.random := by simp [← hu]
  have hrec : u.pvt.record = some (contractOf source p) := by simp [← hu]
  have hloss : u.pvt.lossTimer = some 1000000 := by rw [← hu]; simp [lossTime]
  have hclock : u.clock = if rd32 p 14 ≤ 86399 then
      { day := rd16 p 12, second := rd32 p 14, valid := true, toAdvance := 1000000 } else s.clock := by
    simp [← hu, clockSet, contractDay, contractSecond, secondTime]
  have hhalted : u.pvt.halted = if rd32 p 2 = s.pvt.halted ∧ rd8 p 1 ≠ 0 then s.pvt.halted else 0 := by
    rw [← hu, State.contractTaken_rest _ _ _ |>.2.2.2.2.2.2.2.2.1, State.passedOn_bus _ _ |>.2.2.2.2]
    by_cases hid : rd32 p 2 = s.pvt.halted <;> by_cases hplug : rd8 p 1 = 0 <;>
      simp [haltedAfter, contractOf, hid, hplug]
  have hhandles : s.mdu.mode ≠ .configHold → u.mdu.mode.handlesSessions = true := by
    rw [hmode]
    exact handlesSessions_of_runs hh.1
  have hplug : (contractOf source p).plugged = decide (rd8 p 1 ≠ 0) := by
    by_cases h : rd8 p 1 = 0 <;> simp [contractOf, h]
  obtain ⟨-, htmdu, htpvt, htclock, -⟩ := State.sessionContract_rest u (contractOf source p).plugged
    (contractOf source p).session
  rw [htpvt, htclock, htmdu]
  refine ⟨hrec, rfl, rfl, rfl, hplug, rfl, rfl, rfl, rfl, rfl, hloss, hclock, hhalted, hmode, fun hm => ?_,
    fun hm hst hs' => ?_, fun hm hnot => ?_, fun o left hm ho hne hb hn => ?_⟩
  · rw [State.sessionContract, if_neg (by simp [hmode, hm, Mode.handlesSessions]), hslu]
  · obtain ⟨v, hheld, e⟩ := sessionContract_starts (s := u) hrec (by rwa [hmode]) (by rwa [hslu])
    have hvseq : v.imon.seq = s.imon.seq := hheld.seq.trans hseq
    have hvrandom : v.pbi.random = s.pbi.random := by rw [hheld.pbi, hrandom]
    rw [e]
    refine ⟨by simp [pendingTime], by simp, fun left hw => ?_, fun hw => ?_⟩
    · obtain ⟨hr, hq⟩ := goPending_waiting (hvseq.trans hw) (contractOf source p).session
      exact ⟨by rw [hr, hvrandom], hq⟩
    · have hgo := holds_goPending (s := v) (by rwa [hvseq]) (contractOf source p).session
      exact ⟨by rw [hgo.pbi, hvrandom], hgo.seq.trans hvseq⟩
  · have hnot' : ¬ (Startable u.mdu.mode (contractOf source p).plugged (contractOf source p).session u.pvt.halted ∧
        Starts u.slu.session u.slu.buffer.isNone (contractOf source p).session) := by rwa [hmode, hslu]
    have hheld : ∀ t, Holds u t → t.pbi.random = s.pbi.random ∧ t.imon.seq = s.imon.seq := fun t h =>
      ⟨by rw [h.pbi, hrandom], h.seq.trans hseq⟩
    cases hq : s.slu.session with
    | idle =>
      have hoffer : u.sessionContract (contractOf source p).plugged (contractOf source p).session = u := by
        rw [State.sessionContract, if_pos (hhandles hm), hslu, hq]
        exact offerSession_stays fun hst => hnot' ⟨hst, by rw [hslu, hq]; trivial⟩
      rw [hoffer]
      exact ⟨hrandom, hseq, hslu⟩
    | pending own left =>
      have hpend : u.slu.session = .pending own left := hslu ▸ hq
      have hcase := sessionContract_pending (hhandles hm) hnot' hpend
      simp only
      split_ifs at hcase ⊢ with hsame
      · rw [hcase]
        exact ⟨hrandom, hseq, hslu⟩
      · obtain ⟨hidle, hclear⟩ := returnToIdle_pending (s := u) (by simp [hpend, Session.isPending])
        rw [hcase, ← hslu]
        exact ⟨(hheld _ (holds_returnToIdle u)).1, (hheld _ (holds_returnToIdle u)).2, hidle, hclear⟩
    | opened o left =>
      obtain ⟨hkept, hcase⟩ := sessionContract_opened (hhandles hm) hrec hnot' (hslu ▸ hq)
      refine ⟨(hheld _ hkept).1, (hheld _ hkept).2, ?_⟩
      rw [hslu] at hcase
      exact hcase
    | ended o reason closed =>
      have hwait : u.sessionContract (contractOf source p).plugged (contractOf source p).session = u := by
        rw [State.sessionContract, if_pos (hhandles hm), hslu, hq]
      rw [hwait]
      exact ⟨hrandom, hseq, hslu⟩
  · rw [sessionContract_ends (hhandles hm) (hslu ▸ ho) hne]
    obtain ⟨-, -, hwritten⟩ := endSession_endedWith (s := u) (hslu ▸ ho) (contractOf source p).endReason
    obtain ⟨b, hb', hid, hreason, hnext⟩ := hwritten (by rwa [hslu]) (by rwa [hslu])
    exact ⟨b, hb', hid, by rw [hnext, hslu], hreason⟩

end Sys2Proof.Machine
end

section
/-! PROOF. A scan complete: what the latches and ends inside it keep, and which sessions come out of it OPEN. -/

namespace Sys2Proof.Machine

/-! ## What a latch keeps of the front end and the thermal unit -/

/-- The front end but for its sampling clock, and the thermal unit but for the duty in force and HTR, are another
state's. -/
structure ScanKept (s t : State) : Prop where
  mfe : t.mfe = { s.mfe with insClock := t.mfe.insClock }
  thu : t.thu = { s.thu with inForce := t.thu.inForce, htr := t.thu.htr }

theorem ScanKept.refl (s : State) : ScanKept s s := ⟨rfl, rfl⟩

theorem ScanKept.of_eq {s t : State} (hmfe : t.mfe = s.mfe) (hthu : t.thu = s.thu) : ScanKept s t :=
  ⟨by rw [hmfe], by rw [hthu]⟩

theorem ScanKept.trans {s t u : State} (h : ScanKept s t) (h' : ScanKept t u) : ScanKept s u :=
  ⟨by rw [h'.mfe, h.mfe], by rw [h'.thu, h.thu]⟩

theorem scanKept_applyDuty (s : State) : ScanKept s s.applyDuty := ⟨by simp, by simp [State.applyDuty]⟩

theorem scanKept_recompute (s : State) : ScanKept s s.recompute := by
  unfold State.recompute
  split
  · exact ⟨by simp, by simp [State.convert, State.applyDuty, State.setClaim]⟩
  · exact .refl s

theorem scanKept_recompute_of {s u : State} (hmfe : u.mfe = s.mfe) (hthu : u.thu = s.thu) : ScanKept s u.recompute :=
  (ScanKept.of_eq hmfe hthu).trans (scanKept_recompute u)

theorem scanKept_raiseFlag (s : State) (f : Flag) : ScanKept s (s.raiseFlag f) := by
  unfold State.raiseFlag
  exact scanKept_recompute_of (by simp) (by simp)

theorem scanKept_openingTest (s : State) : ScanKept s s.openingTest := by
  obtain ⟨id, left, -, -, e⟩ | e := openingTest_cases s <;> rw [e]
  · unfold State.openSession
    exact (scanKept_recompute_of (by simp) (by simp)).trans (scanKept_applyDuty _)
  · exact .refl s

theorem scanKept_monitorIdle (s : State) : ScanKept s s.monitorIdle := by
  unfold State.monitorIdle
  split
  · exact scanKept_recompute_of rfl rfl
  · exact .of_eq rfl rfl

theorem scanKept_goPending (s : State) (id : Nat) : ScanKept s (s.goPending id) := by
  have hopen : ScanKept s { s with slu.session := .pending id pendingTime }.recompute := scanKept_recompute_of rfl rfl
  refine hopen.trans ?_
  unfold State.goPending
  generalize { s with slu.session := .pending id pendingTime }.recompute = u
  unfold State.monitorPending
  split
  · exact ⟨by simp [State.setSeq], by simp⟩
  · exact .of_eq rfl rfl

theorem scanKept_idled (s : State) : ScanKept s s.idled := by
  have hmeter : ScanKept s { s with slu.session := .idle }.meterIdles := .of_eq (by simp) (by simp)
  unfold State.idled
  generalize { s with slu.session := .idle }.meterIdles = u at hmeter
  exact hmeter.trans ((scanKept_monitorIdle u).trans ((scanKept_recompute _).trans (scanKept_applyDuty _)))

theorem scanKept_idleAfterEnd (s : State) : ScanKept s s.idleAfterEnd := by
  rw [idleAfterEnd_eq]
  obtain e | ⟨r, -, -, -, -, -, -, e⟩ := retest_cases s.idled <;> rw [e]
  · exact scanKept_idled s
  · exact (scanKept_idled s).trans (scanKept_goPending _ _)

theorem scanKept_sessionDeparts (s : State) (reason : EndReason) : ScanKept s (s.sessionDeparts reason) := by
  unfold State.sessionDeparts
  split
  · next o left ho =>
    refine .trans (t := ({ s with slu.session := .ended o reason s.clock.stamp }.meterDeparts).applyDuty)
      (.trans (t := { s with slu.session := .ended o reason s.clock.stamp }.meterDeparts)
        (.of_eq (by simp) (by simp)) (scanKept_applyDuty _)) ?_
    unfold State.shareLeavesOpen
    exact .trans (.of_eq (by simp) (by simp)) (scanKept_recompute _)
  · exact .refl s

theorem Recorded.scanKept {r : OpenRecord} {reason : EndReason} {closed : Stamp} {s u : State}
    (h : Recorded r reason closed s u) : ScanKept s u := by
  cases h with
  | taken => exact .of_eq (by simp) (by simp)
  | exhausted =>
    unfold State.latchLog
    split
    · exact .refl s
    · exact scanKept_raiseFlag s _

theorem scanKept_endSession (s : State) (reason : EndReason) : ScanKept s (s.endSession reason) := by
  cases hopen : s.slu.session.isOpen
  · rw [endSession_closed hopen]
    exact .refl s
  · obtain ⟨o, left, ho⟩ := opened_of_isOpen hopen
    obtain ⟨b, -, e⟩ | ⟨-, u, hu, e⟩ := endSession_steps ho reason <;> rw [e]
    · exact scanKept_sessionDeparts s reason
    · exact (scanKept_sessionDeparts s reason).trans (hu.scanKept.trans (scanKept_idleAfterEnd u))

/-! ## The latch of a flag that the scan finds (R156) -/

/-- The latch of a new flag other than DUP_ID: raised, and handled by the session unit where it handles events. -/
theorem latch_session {s : State} {f : Flag} (hf : f ≠ .dupId) (h : s.latched f = false) :
    s.latch f =
      if s.mdu.mode.handlesSessions then ((s.raiseFlag f).latchEnds f).openingTest else s.raiseFlag f := by
  have hmonitor : (s.raiseFlag f).monitorLatch f = s.raiseFlag f := by cases f <;> first | rfl | contradiction
  rw [latch_new h, hmonitor, State.sessionLatch, State.raiseFlag_rest s f |>.2.1]

theorem latchEnds_other {f : Flag} (hf : f ≠ .dupId) (hf' : f ≠ .frontEnd) (s : State) : s.latchEnds f = s := by
  cases f <;> first | rfl | contradiction

theorem scanKept_latch {f : Flag} (hf : f ≠ .dupId) (s : State) : ScanKept s (s.latch f) := by
  cases h : s.latched f
  · rw [latch_session hf h]
    split
    · have hends : ScanKept (s.raiseFlag f) ((s.raiseFlag f).latchEnds f) := by
        by_cases hfe : f = .frontEnd
        · rw [hfe]
          exact scanKept_endSession _ _
        · rw [latchEnds_other hf hfe]
          exact .refl _
      exact (scanKept_raiseFlag s f).trans (hends.trans (scanKept_openingTest _))
    · exact scanKept_raiseFlag s f
  · rw [latch_again h]
    exact .refl s

/-! ## Sessions through a scan -/

/-- No session is OPEN, and none is PENDING that may open. -/
def State.Shut (s : State) : Prop := s.slu.session.isOpen = false ∧ s.OpeningSafe

/-- A step of a scan: it opens no session where none may open, and an OPEN one goes on with its meter or ends. -/
structure ScanStep (s t : State) : Prop where
  shut : s.Shut → t.Shut ∧ t.slu = s.slu
  goesOn : s.slu.session.isOpen = true → t.Shut ∨ t.slu.session.isOpen = true ∧ t.emt = s.emt

theorem ScanStep.refl (s : State) : ScanStep s s := ⟨fun h => ⟨h, rfl⟩, fun h => .inr ⟨h, rfl⟩⟩

theorem ScanStep.trans {s t u : State} (h : ScanStep s t) (h' : ScanStep t u) : ScanStep s u := by
  refine ⟨fun hs => ?_, fun hs => ?_⟩
  · obtain ⟨ht, hst⟩ := h.shut hs
    obtain ⟨hu, htu⟩ := h'.shut ht
    exact ⟨hu, htu.trans hst⟩
  · obtain ht | ⟨ht, hst⟩ := h.goesOn hs
    · exact .inl (h'.shut ht).1
    · obtain hu | ⟨hu, htu⟩ := h'.goesOn ht
      · exact .inl hu
      · exact .inr ⟨hu, htu.trans hst⟩

/-- What leaves the session, the meter and the reads of the opening test is a step. -/
theorem ScanStep.of_eq {s t : State} (hslu : t.slu = s.slu) (hemt : t.emt = s.emt) (hmdu : t.mdu = s.mdu)
    (hline : t.mfe.line = s.mfe.line) (hclear : t.imon.clearance = s.imon.clearance) (hflu : t.flu = s.flu) :
    ScanStep s t := by
  refine ⟨fun ⟨hopen, hsafe⟩ => ⟨⟨by rwa [hslu], ?_⟩, hslu⟩, fun hopen => .inr ⟨by rwa [hslu], hemt⟩⟩
  exact openingSafe_of_reads (by rw [hslu]) hmdu hline hclear hflu hsafe

theorem raiseFlag_shut {s : State} (h : s.Shut) (f : Flag) : (s.raiseFlag f).Shut ∧ (s.raiseFlag f).slu = s.slu := by
  obtain ⟨hopen, hsafe⟩ := h
  have hslu : (s.raiseFlag f).slu = s.slu := by
    have hsame : s.slu.session.addFlag f = s.slu.session := by
      cases hq : s.slu.session with
      | opened o left => simp [hq, Session.isOpen] at hopen
      | _ => rfl
    rw [State.raiseFlag_slu, hsame]
  exact ⟨⟨by rw [hslu]; exact hopen, raiseFlag_openingSafe hsafe f⟩, hslu⟩

/-- An end leaves no session OPEN, and one offered again without its clearance (R143, R147). -/
theorem endSession_shut {s : State} (h : s.slu.session.isOpen = true) (reason : EndReason) :
    (s.endSession reason).Shut := by
  refine ⟨endSession_isOpen s reason, fun hp => ?_⟩
  simp [State.mayOpen, endSession_pending_clearance h hp]

theorem scanStep_endSession (s : State) (reason : EndReason) : ScanStep s (s.endSession reason) := by
  refine ⟨fun h => ?_, fun h => .inl (endSession_shut h reason)⟩
  rw [endSession_closed h.1]
  exact ⟨h, rfl⟩

theorem not_pending_of_isOpen {x : Session} (h : x.isOpen = true) : x.isPending = false := by
  cases x <;> simp_all [Session.isOpen, Session.isPending]

/-- The latch of a flag other than DUP_ID is a step: FRONTEND ends the OPEN session, the others keep it (R141, R156). -/
theorem scanStep_latch {f : Flag} (hf : f ≠ .dupId) (s : State) : ScanStep s (s.latch f) := by
  cases h : s.latched f
  · rw [latch_session hf h]
    have hraise : ScanStep s (s.raiseFlag f) :=
      ⟨fun hs => raiseFlag_shut hs f, fun hs => .inr ⟨by simpa using hs, by simp⟩⟩
    split
    · refine hraise.trans (.trans (t := (s.raiseFlag f).latchEnds f) ?_ ?_)
      · by_cases hfe : f = .frontEnd
        · rw [hfe]
          exact scanStep_endSession _ _
        · rw [latchEnds_other hf hfe]
          exact .refl _
      · refine ⟨fun hs => ?_, fun hs => ?_⟩
        · rw [openingTest_of_openingSafe hs.2]
          exact ⟨hs, rfl⟩
        · rw [openingTest_of_not_pending (not_pending_of_isOpen hs)]
          exact .inr ⟨hs, rfl⟩
    · exact hraise
  · rw [latch_again h]
    exact .refl s

/-! ## The steps of the thermal unit's scan (R62) -/

theorem scanStep_sensorStep (s : State) : ScanStep s s.sensorStep := by
  unfold State.sensorStep
  split
  · split
    · exact .refl s
    · have hlatch : ScanStep s (State.latch .thermSensor { s with thu.sensorFault := true }) :=
        .trans (t := { s with thu.sensorFault := true }) (.of_eq rfl rfl rfl rfl rfl rfl) (scanStep_latch (by decide) _)
      refine hlatch.trans ?_
      unfold State.thermalFault
      split
      · exact scanStep_endSession _ _
      · exact .refl _
  · exact .of_eq rfl rfl rfl rfl rfl rfl

theorem scanStep_setHeater (s : State) (h : Heater) : ScanStep s (s.setHeater h) :=
  .of_eq (by simp) (by simp) (by simp) (by simp) (by simp) (by simp)

theorem scanStep_heaterStep (s : State) : ScanStep s s.heaterStep := by
  unfold State.heaterStep
  repeat' split
  · exact .refl s
  · exact (scanStep_setHeater s _).trans (scanStep_latch (by decide) _)
  · exact scanStep_setHeater s _
  · exact .refl s
  · exact scanStep_setHeater s _

theorem scanStep_thermalUpdate (s : State) : ScanStep s s.thermalUpdate :=
  .of_eq (by simp) (by simp) (by simp) (by simp) (by simp) (by simp)

theorem scanStep_thermalScan (s : State) : ScanStep s s.thermalScan := by
  have hcells : ScanStep s s.cellStep := .of_eq (by simp) (by simp) (by simp) (by simp) (by simp) (by simp)
  unfold State.thermalScan
  split
  · exact hcells.trans ((scanStep_sensorStep _).trans (.trans (t := s.cellStep.sensorStep.thermalHold)
      (.of_eq (by simp) (by simp) (by simp) (by simp) (by simp) (by simp)) (scanStep_thermalUpdate _)))
  · exact hcells.trans ((scanStep_sensorStep _).trans ((scanStep_heaterStep _).trans
      (.trans (t := s.cellStep.sensorStep.heaterStep.capStep.powerStep)
        (.of_eq (by simp) (by simp) (by simp) (by simp) (by simp) (by simp)) (scanStep_thermalUpdate _))))

end Sys2Proof.Machine
end

section
/-! PROOF. The energy meter (O51): quanta, classes, and the heating energy of a session that stays OPEN. -/

namespace Sys2Proof.Machine

/-! ## The line at the meter -/

@[simp] theorem lineChanged_isPending (x : Session) (before after : LineState) :
    (x.lineChanged before after).isPending = x.isPending := by
  cases x
  case opened r t =>
    simp only [Session.lineChanged]
    repeat' split
    all_goals rfl
  all_goals rfl

/-- Without a PENDING session a change of the line state leaves the meter (R138). -/
theorem lineReport_emt {s : State} (h : s.slu.session.isPending = false) (before : LineState) :
    (s.lineReport before).emt = s.emt ∧ (s.lineReport before).slu.session.isPending = false := by
  unfold State.lineReport
  split
  · exact ⟨rfl, h⟩
  · rw [openingTest_of_not_pending (by simpa using h)]
    exact ⟨by simp, by simpa using h⟩

theorem lineLatch_emt {s : State} (h : s.slu.session.isPending = false) (before : LineState) :
    (s.lineLatch before).emt = s.emt := by
  unfold State.lineLatch
  split
  · obtain e | e | e := latch_cases (f := .line) (.inl rfl) (by decide) s <;> rw [e]
    · simp
    · rw [openingTest_of_not_pending (by simpa using h)]
      simp
  · rfl

/-- Without a PENDING session line timing and RMS leave the meter. -/
theorem lineSample_emt {s : State} (h : s.slu.session.isPending = false) (v i : Int) :
    (s.lineSample v i).emt = s.emt := by
  have hreport : ∀ m, (State.lineReport s.mfe.line { s with mfe := m }).emt = s.emt ∧
      (State.lineReport s.mfe.line { s with mfe := m }).slu.session.isPending = false := fun m =>
    lineReport_emt (s := { s with mfe := m }) h _
  have hplain : (s.plainSample v i).emt = s.emt := by
    unfold State.plainSample State.loseLine
    repeat' split
    all_goals first | rfl | exact (hreport _).1
  unfold State.lineSample State.closeCycle State.firstCrossing
  repeat' split
  · simp only [State.overdrawCheck_rest]
    rw [lineLatch_emt (hreport _).2]
    exact (hreport _).1
  · exact (hreport _).1
  · exact hplain
  · exact hplain

/-- A sample of a metered session reaches the meter alone, in either order (R121). -/
theorem takeMetering_emt {s : State} (h : s.slu.session.isOpen = true) (hact : s.emt.active = true) (v i : Int)
    (meterFirst : Bool) : (s.takeMetering v i meterFirst).emt = s.emt.addProduct (v * i) s.tariffClass := by
  have hpend : s.slu.session.isPending = false := by
    obtain ⟨o, left, ho⟩ := opened_of_isOpen h
    rw [ho]
    rfl
  unfold State.takeMetering
  split
  · have hsample : s.meterSample v i = { s with emt := s.emt.addProduct (v * i) s.tariffClass } := if_pos hact
    have hline := lineSample_emt (s := s.meterSample v i) (by rwa [hsample]) v i
    simp only [State.keepSample_rest]
    rw [hline, hsample]
  · have hemt : ((s.lineSample v i).keepSample v).emt = s.emt := by simp [lineSample_emt hpend]
    have hclass : ((s.lineSample v i).keepSample v).tariffClass = s.tariffClass := by
      simp [State.tariffClass, State.tariffWindows]
    rw [State.meterSample, if_pos (by rw [hemt]; exact hact), hemt, hclass]

/-! ## Quanta (R121) -/

/-- What the meter has counted: the accumulator with the quanta counted, imported less exported energy (R121). -/
def Meter.balance (m : Meter) : Int := m.acc + m.qraw * ((m.importSum : Nat) - (m.exp : Int))

/-- A meter after an import quantum: one Wh more in the bin of its class and in the running interval (R121). -/
theorem addImport_spec (cls : Nat) (m : Meter) :
    (m.addImport cls).importSum = m.importSum + 1 ∧ (m.addImport cls).count = m.count + 1 ∧
    (m.addImport cls).acc = m.acc ∧ (m.addImport cls).exp = m.exp ∧ (m.addImport cls).qraw = m.qraw ∧
    (cls ≠ 0 → (m.addImport cls).imp0 = m.imp0) ∧ (cls ≠ 1 → (m.addImport cls).imp1 = m.imp1) ∧
    (cls ≠ 2 → (m.addImport cls).imp2 = m.imp2) ∧ (cls < 3 → (m.addImport cls).imp3 = m.imp3) ∧
    (m.addImport cls).active = m.active ∧ (m.addImport cls).heatCount = m.heatCount ∧
    (m.addImport cls).interval = m.interval ∧ (m.addImport cls).peak = m.peak := by
  unfold Meter.addImport
  split
  · simp [Meter.importSum]; omega
  · simp [Meter.importSum]; omega
  · simp [Meter.importSum]; omega
  · next h0 h1 h2 =>
    have hthree : ¬ cls < 3 := by
      intro h
      interval_cases cls
      · exact h0 rfl
      · exact h1 rfl
      · exact h2 rfl
    simp [Meter.importSum, hthree]; omega

/-- What a product leaves in the meter (R121). -/
structure Metered (p : Int) (cls : Nat) (m m' : Meter) : Prop where
  qraw : m'.qraw = m.qraw
  balance : m'.balance = m.balance + p
  low : -(m'.qraw : Int) < m'.acc
  high : m'.acc < m'.qraw
  imp0 : cls ≠ 0 → m'.imp0 = m.imp0
  imp1 : cls ≠ 1 → m'.imp1 = m.imp1
  imp2 : cls ≠ 2 → m'.imp2 = m.imp2
  imp3 : cls < 3 → m'.imp3 = m.imp3
  count : m'.count + m.importSum = m.count + m'.importSum
  active : m'.active = m.active
  heatCount : m'.heatCount = m.heatCount
  interval : m'.interval = m.interval
  peak : m'.peak = m.peak

/-- A product smaller than the quantum counts one quantum at the most, and keeps the accumulator inside one (R121). -/
theorem addProduct_metered {m : Meter} {p : Int} (hp : p.natAbs < m.qraw) (hlo : -(m.qraw : Int) < m.acc)
    (hhi : m.acc < m.qraw) (cls : Nat) : Metered p cls m (m.addProduct p cls) := by
  unfold Meter.addProduct
  split
  · next hup =>
    obtain ⟨hsum, hcount, hacc, hexp, hqraw, h0, h1, h2, h3, hact, hheat, hint, hpeak⟩ :=
      addImport_spec cls { m with acc := m.acc + p - m.qraw }
    have hsum' : (Meter.addImport cls { m with acc := m.acc + p - m.qraw }).importSum = m.importSum + 1 := hsum
    refine ⟨hqraw, ?_, ?_, ?_, h0, h1, h2, h3, ?_, hact, hheat, hint, hpeak⟩
    · rw [Meter.balance, Meter.balance, hsum', hacc, hexp, hqraw]
      push_cast
      ring
    · rw [hacc, hqraw]
      exact (by omega : -(m.qraw : Int) < m.acc + p - m.qraw)
    · rw [hacc, hqraw]
      exact (by omega : m.acc + p - m.qraw < (m.qraw : Int))
    · rw [hcount, hsum']
      exact (by omega : m.count + 1 + m.importSum = m.count + (m.importSum + 1))
  · split
    · next hnup hdown =>
      refine ⟨rfl, ?_, ?_, ?_, fun _ => rfl, fun _ => rfl, fun _ => rfl, fun _ => rfl, rfl, rfl, rfl, rfl, rfl⟩
      · simp only [Meter.balance, Meter.importSum]
        push_cast
        ring
      · exact (by omega : -(m.qraw : Int) < m.acc + p + m.qraw)
      · exact (by omega : m.acc + p + m.qraw < (m.qraw : Int))
    · next hnup hndown =>
      refine ⟨rfl, ?_, ?_, ?_, fun _ => rfl, fun _ => rfl, fun _ => rfl, fun _ => rfl, rfl, rfl, rfl, rfl, rfl⟩
      · simp only [Meter.balance, Meter.importSum]
        ring
      · exact (by omega : -(m.qraw : Int) < m.acc + p)
      · exact (by omega : m.acc + p < (m.qraw : Int))

/-- A product of two codes is at most 2³⁰ in size (R2). -/
theorem product_bound {v i : Int} (hv : -32768 ≤ v) (hv' : v ≤ 32767) (hi : -32768 ≤ i) (hi' : i ≤ 32767) :
    (v * i).natAbs ≤ 1073741824 := by
  rw [Int.natAbs_mul]
  exact Nat.mul_le_mul (by omega : v.natAbs ≤ 32768) (by omega : i.natAbs ≤ 32768)

/-! ## The class of a minute (R123) -/

/-- The window chosen so far, and the next one of the list (R123). -/
def laterWindow (minute : Nat) (best : Option Window) (w : Window) : Option Window :=
  if w.start ≤ minute then
    match best with
    | some b => if b.start < w.start then some w else some b
    | none => some w
  else best

theorem windowAt_concat (minute : Nat) (ws : List Window) (w : Window) :
    windowAt minute (ws ++ [w]) = laterWindow minute (windowAt minute ws) w := by
  unfold windowAt laterWindow
  rw [List.foldl_append]
  rfl

/-- The window with the greatest start at or below the minute, none when every start is above it (R123). -/
theorem windowAt_spec (minute : Nat) (ws : List Window) :
    (windowAt minute ws = none ∧ ∀ x ∈ ws, minute < x.start) ∨
    ∃ b ∈ ws, windowAt minute ws = some b ∧ b.start ≤ minute ∧ ∀ x ∈ ws, x.start ≤ minute → x.start ≤ b.start := by
  induction ws using List.reverseRecOn with
  | nil => exact .inl ⟨rfl, by simp⟩
  | append_singleton ws w ih =>
    rw [windowAt_concat]
    obtain ⟨hnone, habove⟩ | ⟨b, hb, hsome, hbelow, hgreatest⟩ := ih
    · rw [hnone]
      by_cases hw : w.start ≤ minute
      · refine .inr ⟨w, by simp, by simp [laterWindow, hw], hw, fun x hx hxm => ?_⟩
        obtain hx | hx := List.mem_append.1 hx
        · have := habove x hx
          omega
        · rw [List.mem_singleton.1 hx]
      · refine .inl ⟨by simp [laterWindow, hw], fun x hx => ?_⟩
        obtain hx | hx := List.mem_append.1 hx
        · exact habove x hx
        · rw [List.mem_singleton.1 hx]
          omega
    · rw [hsome]
      by_cases hw : w.start ≤ minute ∧ b.start < w.start
      · refine .inr ⟨w, by simp, by simp [laterWindow, hw], hw.1, fun x hx hxm => ?_⟩
        obtain hx | hx := List.mem_append.1 hx
        · have := hgreatest x hx hxm
          omega
        · rw [List.mem_singleton.1 hx]
      · refine .inr ⟨b, by simp [hb], ?_, hbelow, fun x hx hxm => ?_⟩
        · unfold laterWindow
          split
          · next h => exact if_neg fun h' => hw ⟨h, h'⟩
          · rfl
        · obtain hx | hx := List.mem_append.1 hx
          · exact hgreatest x hx hxm
          · rw [List.mem_singleton.1 hx] at hxm ⊢
            by_contra hlt
            exact hw ⟨hxm, by omega⟩

/-- A window of a list whose starts ascend is known by its start (R45). -/
theorem window_of_start {ws : List Window} (h : ws.Pairwise fun a b => a.start < b.start) {a b : Window} (ha : a ∈ ws)
    (hb : b ∈ ws) (hstart : a.start = b.start) : a = b := by
  obtain ⟨i, hi, rfl⟩ := List.getElem_of_mem ha
  obtain ⟨j, hj, rfl⟩ := List.getElem_of_mem hb
  have hsorted := List.pairwise_iff_getElem.1 h
  obtain hlt | rfl | hlt := Nat.lt_trichotomy i j
  · have := hsorted i j hi hj hlt
    omega
  · rfl
  · have := hsorted j i hj hi hlt
    omega

/-- The class is that of the latest window begun by the minute (R123). -/
theorem classAt_begun {minute : Nat} {ws : List Window} (h : ws.Pairwise fun a b => a.start < b.start) {w : Window}
    (hw : w ∈ ws) (hbegun : w.start ≤ minute) (hlatest : ∀ x ∈ ws, x.start ≤ minute → x.start ≤ w.start) :
    classAt minute ws = w.cls := by
  obtain ⟨-, habove⟩ | ⟨b, hb, hsome, hbelow, hgreatest⟩ := windowAt_spec minute ws
  · have := habove w hw
    omega
  · have hstart : b.start = w.start := Nat.le_antisymm (hlatest b hb hbelow) (hgreatest w hw hbegun)
    rw [classAt, hsome, window_of_start h hb hw hstart]

/-- Before the first start the class is that of the last window (R123). -/
theorem classAt_before {minute : Nat} {ws : List Window} {w : Window} (hlast : ws.getLast? = some w)
    (hbefore : ∀ x ∈ ws, minute < x.start) : classAt minute ws = w.cls := by
  obtain ⟨hnone, -⟩ | ⟨b, hb, -, hbelow, -⟩ := windowAt_spec minute ws
  · rw [classAt, hnone, hlast]
  · have := hbefore b hb
    omega

/-! ## The heating energy (R131) -/

/-- One scan's heating power joins the accumulator, which stays inside one Wh (R131). -/
theorem addHeat_spec {m : Meter} {ph : Nat} (hacc : m.heatAcc < 360000) (hph : ph ≤ 360000) :
    (m.addHeat ph).heatAcc + 360000 * (m.addHeat ph).heatCount = m.heatAcc + 360000 * m.heatCount + ph ∧
    (m.addHeat ph).heatAcc < 360000 ∧ (m.addHeat ph).acc = m.acc ∧ (m.addHeat ph).importSum = m.importSum ∧
    (m.addHeat ph).count = m.count ∧ (m.addHeat ph).peak = m.peak := by
  have hunits : heatUnits = 360000 := rfl
  by_cases h : heatUnits ≤ m.heatAcc + ph
  · have e : m.addHeat ph = { m with heatAcc := m.heatAcc + ph - heatUnits, heatCount := m.heatCount + 1 } := if_pos h
    rw [e]
    exact ⟨by dsimp only; omega, by dsimp only; omega, rfl, by simp only [Meter.importSum], rfl, rfl⟩
  · have e : m.addHeat ph = { m with heatAcc := m.heatAcc + ph } := if_neg h
    rw [e]
    exact ⟨by dsimp only; omega, by dsimp only; omega, rfl, by simp only [Meter.importSum], rfl, rfl⟩

theorem meterScan_shut {s : State} (h : s.Shut) : s.meterScan.Shut :=
  ⟨by simpa using h.1, openingSafe_of_reads (s := s) (by simp) (by simp) (by simp) (by simp) (by simp) h.2⟩

/-- The reference check of a scan while a session is OPEN: nothing, or an end by the latch of FRONTEND (R16, R141). -/
theorem refLatch_opened {s : State} (hmode : s.mdu.mode.handlesSessions = true) (hopen : s.slu.session.isOpen = true)
    (before : Nat) : s.refLatch before = s ∨ (s.refLatch before).Shut := by
  unfold State.refLatch
  split
  · cases h : s.latched .frontEnd
    · have hshut : ((s.raiseFlag .frontEnd).endSession .frontEndFault).Shut := endSession_shut (by simpa using hopen) _
      have hends : s.latch .frontEnd = (s.raiseFlag .frontEnd).endSession .frontEndFault := by
        rw [latch_session (by decide) h, if_pos hmode]
        exact openingTest_of_openingSafe hshut.2
      rw [hends]
      exact .inr hshut
    · exact .inl (latch_again h)
  · exact .inl rfl

/-- The front end's part of a scan while a session is OPEN: the session goes on with its meter and its share, or it has
ended (R12, R16). -/
theorem finishScan_opened {s : State} (hmode : s.mdu.mode.handlesSessions = true) (hopen : s.slu.session.isOpen = true)
    (ustr : BitVec 12) (temps : Sensors (Option Int)) (ref : BitVec 12) :
    (s.finishScan ustr temps ref).Shut ∨
    (s.finishScan ustr temps ref).slu.session.isOpen = true ∧ (s.finishScan ustr temps ref).emt = s.emt ∧
      (s.finishScan ustr temps ref).she = s.she := by
  unfold State.finishScan
  generalize hw : ({ s with
    mfe.history := Sensors.zip historyAfter s.mfe.history temps
    mfe.refCount := refCountAfter ref s.mfe.refCount } : State) = w
  have hwmode : w.mdu.mode.handlesSessions = true := by rw [← hw]; exact hmode
  have hwopen : w.slu.session.isOpen = true := by rw [← hw]; exact hopen
  obtain e | hshut := refLatch_opened hwmode hwopen s.mfe.refCount
  · rw [e]
    exact .inr ⟨hwopen, by rw [← hw]; rfl, by rw [← hw]; rfl⟩
  · exact .inl ⟨hshut.1, openingSafe_of_reads (s := w.refLatch s.mfe.refCount) rfl rfl rfl rfl rfl hshut.2⟩

theorem exec_scanComplete {s : State} (h : s.mdu.mode.runs = true) (ustr t1 t2 t3 t4 th ref : BitVec 12)
    (meterFirst : Bool) :
    exec (.scanComplete ustr t1 t2 t3 t4 th ref meterFirst) s =
      .next (State.dormantTest s ((s.finishScan ustr (convertTemps t1 t2 t3 t4 th) ref).scanConsumers meterFirst)) :=
  congrArg Host.Outcome.next (if_pos h)

/-- A station that enters DORMANT has no OPEN session (R173). -/
theorem dormantTest_opened {before s : State} (h : (State.dormantTest before s).slu.session.isOpen = true) :
    State.dormantTest before s = s := by
  obtain ⟨hready, -, e⟩ | e := dormantTest_cases before s
  · obtain ⟨-, -, hidle, -⟩ := (dormantReady_iff s).1 hready
    rw [e] at h
    simp [hidle, Session.isOpen] at h
  · exact e

/-- The two consumers of a scan while the session stays OPEN: the meter takes the power before or after the conversion
(R131). -/
theorem scanConsumers_opened {s : State} (hopen : s.slu.session.isOpen = true) (hact : s.emt.active = true)
    {meterFirst : Bool} (h : (s.scanConsumers meterFirst).slu.session.isOpen = true) :
    (s.scanConsumers meterFirst).emt =
      s.emt.addHeat (if meterFirst then s.she.phApplied else (s.scanConsumers meterFirst).she.phApplied) := by
  unfold State.scanConsumers at h ⊢
  cases meterFirst
  · simp only [Bool.false_eq_true, if_false] at h ⊢
    obtain hshut | ⟨-, hemt⟩ := (scanStep_thermalScan s).goesOn hopen
    · simp [hshut.1] at h
    · simp [State.meterScan, hemt, hact]
  · simp only [if_true] at h ⊢
    have hmeter : s.meterScan = { s with emt := s.emt.addHeat s.she.phApplied } := if_pos hact
    obtain hshut | ⟨-, hemt⟩ := (scanStep_thermalScan s.meterScan).goesOn (by simpa using hopen)
    · simp [hshut.1] at h
    · rw [hemt, hmeter]

/-- Settles O51: a sample's quantum, the class it counts in, and the heating power of a scan. -/
theorem energyMetered : Obligations.EnergyMetered := by
  refine ⟨?_, fun s => ⟨fun hnone => ?_, fun r hvalid hr hsorted => ?_⟩, ?_⟩
  · intro v i meterFirst s hruns hact hopen hv hv' hi hi' hq hlo hhi
    have hbound := product_bound hv hv' hi hi'
    have hm := addProduct_metered (m := s.emt) (p := v * i) (by omega) hlo hhi s.tariffClass
    refine ⟨_, exec_meteringSample hruns hv hv' hi hi' meterFirst, ?_⟩
    rw [takeMetering_emt hopen hact]
    exact ⟨hm.qraw, hm.balance, hm.low, hm.high, hm.imp0, hm.imp1, hm.imp2, hm.imp3, hm.count, hm.active.trans hact,
      hm.heatCount, hm.interval, hm.peak⟩
  · obtain h | h | ⟨r, hr, hempty⟩ := hnone
    · simp [State.tariffClass, h]
    · simp [State.tariffClass, State.tariffWindows, h, classAt, windowAt]
    · simp [State.tariffClass, State.tariffWindows, hr, hempty, classAt, windowAt]
  · have hclass : s.tariffClass = classAt (s.clock.second / 60) r.windows := by
      simp [State.tariffClass, State.tariffWindows, hvalid, hr, Clock.minute]
    rw [hclass]
    exact ⟨fun w hw => classAt_begun hsorted hw, fun w hlast => classAt_before hlast⟩
  · intro ustr t1 t2 t3 t4 th ref meterFirst s hrun hact hopen hheat
    refine ⟨_, exec_scanComplete (by simp [hrun, Mode.runs]) .., fun ht ph hph hle => ?_⟩
    have hsame := dormantTest_opened ht
    rw [hsame] at ht hph ⊢
    generalize hu : s.finishScan ustr (convertTemps t1 t2 t3 t4 th) ref = u at *
    obtain hshut | ⟨huopen, hemt, hshe⟩ := hu ▸
      finishScan_opened (s := s) (by simp [hrun, Mode.handlesSessions]) hopen ustr
      (convertTemps t1 t2 t3 t4 th) ref
    · have hclosed : (u.scanConsumers meterFirst).slu.session.isOpen = false := by
        unfold State.scanConsumers
        split
        · exact ((scanStep_thermalScan u.meterScan).shut (meterScan_shut hshut)).1.1
        · exact (meterScan_shut ((scanStep_thermalScan u).shut hshut).1).1
      simp [hclosed] at ht
    · rw [scanConsumers_opened huopen (by rw [hemt]; exact hact) ht, hshe, ← hph, hemt]
      exact addHeat_spec hheat hle

end Sys2Proof.Machine
end

section
/-! PROOF. What a scan complete publishes, and what it leaves in the thermal unit and the share engine (O10, O12). -/

namespace Sys2Proof.Machine

/-! ## The front end's record (R12, R14, R15) -/

/-- A channel's filtered value and history are those of the code's temperature (R14, R15). -/
theorem channelAfter (code : BitVec 12) (h : Option (Int × Int)) :
    ChannelAfter code h (filtered h (tempOf code)) (historyAfter h (tempOf code)) := by
  unfold ChannelAfter tempOf
  split
  · exact ⟨rfl, rfl⟩
  · cases h with
    | none => exact ⟨rfl, rfl⟩
    | some p => exact ⟨rfl, rfl⟩

/-- The front end stays but for its sampling clock. -/
def FrontKept (s t : State) : Prop := t.mfe = { s.mfe with insClock := t.mfe.insClock }

theorem FrontKept.trans {s t u : State} (h : FrontKept s t) (h' : FrontKept t u) : FrontKept s u := by
  unfold FrontKept at *
  rw [h', h]

theorem FrontKept.of_eq {s t : State} (h : t.mfe = s.mfe) : FrontKept s t := by rw [FrontKept, h]

theorem scanKept_refLatch (s : State) (before : Nat) : ScanKept s (s.refLatch before) := by
  unfold State.refLatch
  split
  · exact scanKept_latch (by decide) s
  · exact .refl s

theorem scanKept_thermalFault (s : State) : ScanKept s s.thermalFault := by
  unfold State.thermalFault
  split
  · exact scanKept_endSession s _
  · exact .refl s

/-! ## The steps of the thermal unit (R62) -/

/-- The cells' values and the sensor condition of a thermal unit (R55, R56). -/
def Thermal.cells (t : Thermal) : Nat × Option Int × Option Int × Bool := (t.validCount, t.tmin, t.tmax, t.sensorFault)

theorem ScanKept.cells {s t : State} (h : ScanKept s t) : t.thu.cells = s.thu.cells := by
  rw [h.thu]
  rfl

theorem ScanKept.heater {s t : State} (h : ScanKept s t) : t.thu.heater = s.thu.heater := by rw [h.thu]

/-- Step 2: the sensor condition; the rest of the thermal unit stays (R56). -/
theorem sensorStep_kept (s : State) :
    ScanKept { s with thu.sensorFault := decide (s.thu.validCount < 2) } s.sensorStep := by
  unfold State.sensorStep
  by_cases hlow : s.thu.validCount < 2
  · rw [if_pos hlow, decide_eq_true hlow]
    split
    · next h => exact .of_eq rfl (by rw [← h])
    · exact (scanKept_latch (by decide) _).trans (scanKept_thermalFault _)
  · rw [if_neg hlow, decide_eq_false hlow]
    exact .refl _

/-- The heater state of a scan (R63 to R65). -/
def State.nextHeater (s : State) : Heater :=
  if matHot s.mfe.record.temps.th s.mdu.cfg.thMax then .lockout
  else if s.thu.heater = .lockout then
    if matCool s.mfe.record.temps.th s.mdu.cfg.thMax then .off else .lockout
  else heaterAfter s.thu.heater s.thu.sensorFault s.thu.tmin s.mdu.cfg.tOn s.mdu.cfg.tOff

theorem scanKept_setHeater (s : State) (h : Heater) : ScanKept { s with thu.heater := h } (s.setHeater h) :=
  scanKept_applyDuty _

/-- Step 3: the heater state; the rest of the thermal unit stays (R63 to R65). -/
theorem heaterStep_kept (s : State) : ScanKept { s with thu.heater := s.nextHeater } s.heaterStep := by
  unfold State.heaterStep State.nextHeater
  split
  · split
    · next h => exact .of_eq rfl (by rw [← h])
    · exact (scanKept_setHeater s _).trans (scanKept_latch (by decide) _)
  · split
    · next h =>
      split
      · exact scanKept_setHeater s _
      · exact .of_eq rfl (by rw [← h])
    · exact scanKept_setHeater s _

/-- The thermal update: the duty in force is that of the conversion (R68, R73, R85). -/
theorem thermalUpdate_kept (s : State) : ScanKept s s.thermalUpdate := by
  refine ⟨by simp, ?_⟩
  simp [State.thermalUpdate, State.convert, State.applyDuty, State.setDemand]

/-- The state of a scan with the cells and the sensor condition formed (R62 steps 1 and 2). -/
def State.sensed (s : State) : State :=
  { s with
    thu.validCount := (cellTemps s.mfe.record.temps).length
    thu.tmin := lowestOf (cellTemps s.mfe.record.temps)
    thu.tmax := highestOf (cellTemps s.mfe.record.temps)
    thu.sensorFault := decide ((cellTemps s.mfe.record.temps).length < 2) }

theorem sensorStep_sensed (s : State) : ScanKept s.sensed s.cellStep.sensorStep := sensorStep_kept s.cellStep

/-! ## The conversion read off the state it leaves (R73, R85) -/

/-- The share engine and the duty in force are those of the thermal unit, the front end and D beside them. -/
structure State.Converted (t : State) : Prop where
  demand : t.she.demand = t.demandNow
  wanting : t.she.wanting = decide (t.she.claim < t.she.demand)
  pIn : t.she.pInAvail = t.pIn
  pDc : t.she.pDcAvail = t.pDc
  duty : t.she.dutyApplied = t.dutyNow
  ph : t.she.phApplied = t.phNow
  idc : t.she.idcSet = t.idcNow
  chgEn : t.she.chgEn = decide (0 < t.she.idcSet)
  iRef : t.she.iRef = t.she.idcSet
  inForce : t.thu.inForce = t.gatedDuty

theorem thermalUpdate_converted (s : State) : s.thermalUpdate.Converted :=
  ⟨rfl, rfl, rfl, rfl, rfl, rfl, rfl, rfl, rfl, rfl⟩

/-- The caps, the duty request and the powers are those of the cells, the heater state and the string voltage beside
them (R59 to R61, R66, R67). -/
structure State.Capped (t : State) : Prop where
  capT : t.thu.capT = t.capNow
  taper : t.thu.taper = t.taperNow
  idcCap : t.thu.idcCap = min t.thu.capT (min t.thu.taper t.mdu.cfg.imaxDc)
  dutyReq : t.thu.dutyReq = t.dutyRequest
  phFull : t.thu.phFull = fullPower t.ustr t.mdu.cfg.rh
  phReq : t.thu.phReq = t.thu.dutyReq * t.thu.phFull / 16

theorem thermalUpdate_capped (s : State) : s.capStep.powerStep.thermalUpdate.Capped := ⟨rfl, rfl, rfl, rfl, rfl, rfl⟩

/-- The cells and the sensor condition of a published record (R55, R56). -/
structure State.Sensed (t : State) : Prop where
  count : t.thu.validCount = (cellTemps t.mfe.record.temps).length
  tmin : t.thu.tmin = lowestOf (cellTemps t.mfe.record.temps)
  tmax : t.thu.tmax = highestOf (cellTemps t.mfe.record.temps)
  fault : t.thu.sensorFault = decide (t.thu.validCount < 2)

theorem sensed_of_cells {s t : State} (hfront : FrontKept s t) (h : t.thu.cells = s.sensed.thu.cells) : t.Sensed := by
  have htemps : t.mfe.record = s.mfe.record := by rw [hfront]
  obtain ⟨hcount, htmin, htmax, hfault⟩ := by simpa [Thermal.cells] using h
  exact ⟨by rw [hcount, htemps]; rfl, by rw [htmin, htemps]; rfl, by rw [htmax, htemps]; rfl,
    by rw [hfault, hcount]; rfl⟩

/-- What a scan outside CONFIG_HOLD leaves in the thermal unit (R62). -/
theorem thermalScan_running {s : State} (h : s.mdu.mode ≠ .configHold) :
    FrontKept s s.thermalScan ∧ s.thermalScan.Sensed ∧ s.thermalScan.Capped ∧
    s.thermalScan.thu.heater = s.sensed.nextHeater ∧ s.thermalScan.Converted := by
  have hscan : s.thermalScan = s.cellStep.sensorStep.heaterStep.capStep.powerStep.thermalUpdate := if_neg h
  have hcapped := thermalUpdate_capped s.cellStep.sensorStep.heaterStep
  have hconverted := thermalUpdate_converted s.cellStep.sensorStep.heaterStep.capStep.powerStep
  have hsensed := sensorStep_sensed s
  have hheater := heaterStep_kept s.cellStep.sensorStep
  have hmdu : s.cellStep.sensorStep.mdu = s.mdu := by simp
  rw [← hscan] at hcapped hconverted
  generalize s.cellStep.sensorStep = u at *
  have hnext : u.nextHeater = s.sensed.nextHeater := by
    simp only [State.nextHeater, hmdu]
    rw [hsensed.thu, hsensed.mfe]
    rfl
  have hupdate := thermalUpdate_kept u.heaterStep.capStep.powerStep
  rw [← hscan] at hupdate
  have hfront : FrontKept s s.thermalScan :=
    FrontKept.trans (t := u) hsensed.mfe (FrontKept.trans (t := u.heaterStep) hheater.mfe hupdate.mfe)
  have hcells : s.thermalScan.thu.cells = s.sensed.thu.cells :=
    hupdate.cells.trans (hheater.cells.trans hsensed.cells)
  have hheat : s.thermalScan.thu.heater = u.nextHeater := hupdate.heater.trans hheater.heater
  exact ⟨hfront, sensed_of_cells hfront hcells, hcapped, hheat.trans hnext, hconverted⟩

/-- What a scan in CONFIG_HOLD leaves in the thermal unit (R54). -/
theorem thermalScan_hold {s : State} (h : s.mdu.mode = .configHold) :
    FrontKept s s.thermalScan ∧ s.thermalScan.Sensed ∧ s.thermalScan.Converted ∧
    s.thermalScan.thu.heater = .off ∧ s.thermalScan.thu.capT = 0 ∧ s.thermalScan.thu.taper = 0 ∧
    s.thermalScan.thu.idcCap = 0 ∧ s.thermalScan.thu.dutyReq = 0 ∧ s.thermalScan.thu.phFull = 0 ∧
    s.thermalScan.thu.phReq = 0 ∧ s.thermalScan.thu.htr = false := by
  have hscan : s.thermalScan = s.cellStep.sensorStep.thermalHold.thermalUpdate := if_pos h
  have hconverted := thermalUpdate_converted s.cellStep.sensorStep.thermalHold
  have hsensed := sensorStep_sensed s
  rw [← hscan] at hconverted
  generalize s.cellStep.sensorStep = u at *
  have hfront : FrontKept s s.thermalScan := by
    refine FrontKept.trans (t := u) hsensed.mfe (FrontKept.of_eq ?_)
    rw [hscan]
    simp
  have hcells : s.thermalScan.thu.cells = s.sensed.thu.cells := by
    rw [hscan]
    exact hsensed.cells
  refine ⟨hfront, sensed_of_cells hfront hcells, hconverted, ?_⟩
  rw [hscan]
  exact ⟨rfl, rfl, rfl, rfl, rfl, rfl, rfl, rfl⟩

/-! ## The consumers of a scan (R12, R131) -/

theorem meterScan_eq (s : State) : s.meterScan = { s with emt := s.meterScan.emt } := by
  unfold State.meterScan
  split <;> rfl

/-- In either order of the consumers the thermal unit's scan is the one of the record, beside the meter. -/
theorem scanConsumers_cases (s : State) (meterFirst : Bool) :
    ∃ e e', s.scanConsumers meterFirst = { State.thermalScan { s with emt := e } with emt := e' } := by
  unfold State.scanConsumers
  cases meterFirst
  · exact ⟨s.emt, s.thermalScan.meterScan.emt, meterScan_eq _⟩
  · refine ⟨s.meterScan.emt, s.meterScan.thermalScan.emt, ?_⟩
    rw [if_pos rfl, ← meterScan_eq s]

theorem scanConsumers_front (s : State) (meterFirst : Bool) : FrontKept s (s.scanConsumers meterFirst) := by
  have hscan : ∀ u : State, FrontKept u u.thermalScan := by
    intro u
    by_cases h : u.mdu.mode = .configHold
    · exact (thermalScan_hold h).1
    · exact (thermalScan_running h).1
  obtain ⟨e, e', h⟩ := scanConsumers_cases s meterFirst
  rw [h]
  exact hscan { s with emt := e }

/-- Where no session is OPEN and none may open, the consumers leave the session unit. -/
theorem scanConsumers_shut {s : State} (h : s.Shut) (meterFirst : Bool) :
    (s.scanConsumers meterFirst).slu = s.slu := by
  obtain ⟨e, e', hc⟩ := scanConsumers_cases s meterFirst
  rw [hc]
  exact ((scanStep_thermalScan { s with emt := e }).shut h).2

@[simp] theorem State.scanConsumers_rest (s : State) (meterFirst : Bool) :
    (s.scanConsumers meterFirst).mdu = s.mdu ∧ (s.scanConsumers meterFirst).pvt = s.pvt ∧
    (s.scanConsumers meterFirst).clock = s.clock ∧ (s.scanConsumers meterFirst).pins = s.pins := by
  unfold State.scanConsumers
  split <;> simp

@[simp] theorem State.finishScan_rest (s : State) (ustr : BitVec 12) (temps : Sensors (Option Int)) (ref : BitVec 12) :
    (s.finishScan ustr temps ref).mdu = s.mdu ∧ (s.finishScan ustr temps ref).pvt = s.pvt ∧
    (s.finishScan ustr temps ref).clock = s.clock ∧ (s.finishScan ustr temps ref).pins = s.pins := by
  unfold State.finishScan State.publishScan State.refLatch
  split <;> simp

/-- The front end after its part of a scan (R12, R13, R15, R16). -/
theorem finishScan_front (s : State) (ustr : BitVec 12) (temps : Sensors (Option Int)) (ref : BitVec 12) :
    (s.finishScan ustr temps ref).mfe = { s.mfe with
      record := { ustr := some (ustrOf ustr), temps := Sensors.zip filtered s.mfe.history temps }
      scanning := false
      history := Sensors.zip historyAfter s.mfe.history temps
      refCount := refCountAfter ref s.mfe.refCount
      insClock := (s.finishScan ustr temps ref).mfe.insClock } := by
  have hlatch := (scanKept_refLatch { s with
    mfe.history := Sensors.zip historyAfter s.mfe.history temps
    mfe.refCount := refCountAfter ref s.mfe.refCount } s.mfe.refCount).mfe
  unfold State.finishScan State.publishScan
  rw [hlatch]

theorem scan_unexpired {s : State} (h : s.mdu.dormantTimer ≠ .expired) (hruns : s.mdu.mode.runs = true)
    (ustr t1 t2 t3 t4 th ref : BitVec 12) (meterFirst : Bool) :
    exec (.scanComplete ustr t1 t2 t3 t4 th ref meterFirst) s =
      .next ((s.finishScan ustr (convertTemps t1 t2 t3 t4 th) ref).scanConsumers meterFirst) := by
  rw [exec_scanComplete hruns, dormantTest_unexpired (by simpa using h)]

/-! ## The end by FRONTEND (R16, R141) -/

/-- Where the record of an ended session is depends on the session units alone (R143, R146). -/
theorem EndedWith.of_slu {o o' : OpenRecord} {reason : EndReason} {s s' t t' : State} (h : EndedWith o reason s t)
    (hbuffer : s'.slu.buffer = s.slu.buffer) (htable : s'.slu.table = s.slu.table) (hslu : t'.slu = t.slu)
    (hid : o'.id = o.id) (hstamp : o'.opened = o.opened) : EndedWith o' reason s' t' := by
  unfold EndedWith at *
  rwa [hbuffer, htable, hslu, hid, hstamp]

/-- The flag raised while a session is OPEN: the session goes on with its id and stamp (R145). -/
theorem raiseFlag_opened {s : State} {o : OpenRecord} {left : Option Nat} (ho : s.slu.session = .opened o left)
    (f : Flag) :
    ∃ o', (s.raiseFlag f).slu.session = .opened o' left ∧ o'.id = o.id ∧ o'.opened = o.opened :=
  ⟨{ o with flags := FlagSet.insert o.flags f }, by simp [ho, Session.addFlag], rfl, rfl⟩

/-- The latch of FRONTEND ends the OPEN session (R141). -/
theorem latchFrontEnd_ends {s : State} (hmode : s.mdu.mode.handlesSessions = true) (h : s.latched .frontEnd = false)
    {o : OpenRecord} {left : Option Nat} (ho : s.slu.session = .opened o left) :
    EndedWith o .frontEndFault s (s.latch .frontEnd) ∧ (s.latch .frontEnd).Shut := by
  have hopen : (s.raiseFlag .frontEnd).slu.session.isOpen = true := by
    simpa using (by rw [ho]; rfl : s.slu.session.isOpen = true)
  have hshut : ((s.raiseFlag .frontEnd).endSession .frontEndFault).Shut := endSession_shut hopen _
  have hends : s.latch .frontEnd = (s.raiseFlag .frontEnd).endSession .frontEndFault := by
    rw [latch_session (by decide) h, if_pos hmode]
    exact openingTest_of_openingSafe hshut.2
  obtain ⟨o', ho', hid, hstamp⟩ := raiseFlag_opened ho .frontEnd
  rw [hends]
  exact ⟨(endSession_endedWith ho' _).of_slu (by simp) (by simp) rfl hid.symm hstamp.symm, hshut⟩

/-- The front end's part of a scan with the reference found out of tolerance for the second time (R16). -/
theorem finishScan_frontEnd {s : State} {ref : BitVec 12} (hcount : s.mfe.refCount = 1)
    (hout : refInTolerance ref = false) (ustr : BitVec 12) (temps : Sensors (Option Int)) :
    ∃ (w : State) (r : ScanRecord), w.slu = s.slu ∧ w.mdu = s.mdu ∧ w.flu = s.flu ∧
      s.finishScan ustr temps ref = State.publishScan r (w.latch .frontEnd) := by
  refine ⟨{ s with
    mfe.history := Sensors.zip historyAfter s.mfe.history temps
    mfe.refCount := refCountAfter ref s.mfe.refCount },
    { ustr := some (ustrOf ustr), temps := Sensors.zip filtered s.mfe.history temps }, rfl, rfl, rfl, ?_⟩
  unfold State.finishScan State.refLatch
  rw [if_pos]
  simp [hcount, refCountAfter, hout]

/-- Settles O10: the record, the histories and the reference count, and what the latch of FRONTEND ends. -/
theorem scanPublishes : Obligations.ScanPublishes := by
  intro ustr t1 t2 t3 t4 th ref meterFirst s hruns hdorm
  refine ⟨_, scan_unexpired hdorm hruns .., ?_⟩
  have hfront : FrontKept _ _ :=
    scanConsumers_front (s.finishScan ustr (convertTemps t1 t2 t3 t4 th) ref) meterFirst
  have hrefs : refCountAfter ref s.mfe.refCount =
      if 2007 ≤ ref.toNat ∧ ref.toNat ≤ 2089 then 0 else min (s.mfe.refCount + 1) 2 := by
    simp [refCountAfter, refInTolerance]
  rw [hfront, finishScan_front]
  refine ⟨rfl, channelAfter .., channelAfter .., channelAfter .., channelAfter .., channelAfter .., hrefs, ?_, rfl,
    rfl, rfl, by simp, by simp, by simp, by simp⟩
  intro hcount hout
  have hbad : refInTolerance ref = false := by
    simp only [refInTolerance, Bool.and_eq_false_iff, decide_eq_false_iff_not]
    omega
  obtain ⟨w, r, hslu, hmdu, hflu, e⟩ := finishScan_frontEnd hcount hbad ustr (convertTemps t1 t2 t3 t4 th)
  rw [e]
  refine ⟨(moves_scanConsumers _ meterFirst).keeps Move.keepsFlag (latch_latched w .frontEnd),
      fun o left ho hnew hmode => ?_⟩
  have hw : w.latched .frontEnd = false := by rw [State.latched, hflu]; exact hnew
  obtain ⟨hended, hshut⟩ := latchFrontEnd_ends (s := w) (o := o) (left := left)
    (by rw [hmdu]; exact handlesSessions_of_runs hruns hmode) hw (by rwa [hslu])
  have hpublished : (State.publishScan r (w.latch .frontEnd)).Shut :=
    ⟨hshut.1, openingSafe_of_reads (s := w.latch .frontEnd) rfl rfl rfl rfl rfl hshut.2⟩
  exact hended.of_slu (by rw [hslu]) (by rw [hslu]) (scanConsumers_shut hpublished meterFirst) rfl rfl

end Sys2Proof.Machine
end

section
/-! PROOF. The thermal unit and the share engine after a scan complete (O12). -/

namespace Sys2Proof.Machine

/-! ## The cells (R55) -/

theorem mem_cellTemps (t : Sensors (Option Int)) (a : Int) : a ∈ cellTemps t ↔ some a ∈ [t.t1, t.t2, t.t3, t.t4] := by
  simp [cellTemps, List.mem_filterMap]

theorem cellTemps_length (t : Sensors (Option Int)) :
    (cellTemps t).length = [t.t1, t.t2, t.t3, t.t4].countP Option.isSome := by
  rw [cellTemps, List.length_filterMap_eq_countP]
  rfl

/-- Tmin is the least of the temperatures (R55). -/
theorem lowestOf_eq_some_iff (l : List Int) (a : Int) : lowestOf l = some a ↔ a ∈ l ∧ ∀ b ∈ l, a ≤ b := by
  have hmin : lowestOf l = l.min? := by cases l <;> rfl
  rw [hmin, List.min?_eq_some_iff]

/-- Tmax is the greatest of the temperatures (R55). -/
theorem highestOf_eq_some_iff (l : List Int) (a : Int) : highestOf l = some a ↔ a ∈ l ∧ ∀ b ∈ l, b ≤ a := by
  have hmax : highestOf l = l.max? := by cases l <;> rfl
  rw [hmax, List.max?_eq_some_iff]

/-- The cells of a scan, over the four published temperatures (R55, R56). -/
theorem State.Sensed.cells {t : State} (h : t.Sensed) :
    t.thu.validCount = [t.mfe.record.temps.t1, t.mfe.record.temps.t2, t.mfe.record.temps.t3,
      t.mfe.record.temps.t4].countP Option.isSome ∧
    (∀ a, t.thu.tmin = some a ↔
      some a ∈ [t.mfe.record.temps.t1, t.mfe.record.temps.t2, t.mfe.record.temps.t3, t.mfe.record.temps.t4] ∧
      ∀ b, some b ∈ [t.mfe.record.temps.t1, t.mfe.record.temps.t2, t.mfe.record.temps.t3,
        t.mfe.record.temps.t4] → a ≤ b) ∧
    (∀ a, t.thu.tmax = some a ↔
      some a ∈ [t.mfe.record.temps.t1, t.mfe.record.temps.t2, t.mfe.record.temps.t3, t.mfe.record.temps.t4] ∧
      ∀ b, some b ∈ [t.mfe.record.temps.t1, t.mfe.record.temps.t2, t.mfe.record.temps.t3,
        t.mfe.record.temps.t4] → b ≤ a) := by
  refine ⟨by rw [h.count, cellTemps_length], fun a => ?_, fun a => ?_⟩
  · rw [h.tmin, lowestOf_eq_some_iff]
    simp only [mem_cellTemps]
  · rw [h.tmax, highestOf_eq_some_iff]
    simp only [mem_cellTemps]

/-! ## The caps, the duty request and the powers (R59 to R61, R66, R67) -/

theorem ceilDiv_toNat {x y : Int} (hx : 0 ≤ x) (hy : 0 < y) :
    ((ceilDiv (16 * x.toNat) y.toNat : Nat) : Int) = (16 * x + y - 1) / y := by
  obtain ⟨m, rfl⟩ := Int.eq_ofNat_of_zero_le hx
  obtain ⟨n, rfl⟩ := Int.eq_ofNat_of_zero_le hy.le
  have hn : 0 < n := by exact_mod_cast hy
  have hcast : ((16 * m + n - 1 : Nat) : Int) = 16 * m + n - 1 := by omega
  rw [ceilDiv, Int.toNat_natCast, Int.toNat_natCast, Int.natCast_ediv, hcast]

/-- The duty request of HEAT_ON (R66). -/
theorem dutyRequest_on {t : State} (hmode : t.mdu.mode = .run) (hopen : t.slu.session.isOpen = true)
    (hheat : t.thu.heater = .on) {a : Int} (ha : t.thu.tmin = some a) :
    (a ≤ t.mdu.cfg.tOn → t.dutyRequest = 16) ∧
    (t.mdu.cfg.tOn < a → a < t.mdu.cfg.tOff →
      (t.dutyRequest : Int) =
        (16 * (t.mdu.cfg.tOff - a) + (t.mdu.cfg.tOff - t.mdu.cfg.tOn) - 1) / (t.mdu.cfg.tOff - t.mdu.cfg.tOn)) := by
  have hduty : t.dutyRequest = dutyOf a t.mdu.cfg.tOn t.mdu.cfg.tOff := by
    simp [State.dutyRequest, hmode, hopen, hheat, ha]
  rw [hduty, dutyOf]
  refine ⟨fun h => if_pos h, fun hon hoff => ?_⟩
  rw [if_neg (by omega)]
  exact ceilDiv_toNat (by omega) (by omega)

theorem dutyRequest_off {t : State} (h : ¬ (t.mdu.mode = .run ∧ t.slu.session.isOpen = true ∧ t.thu.heater = .on)) :
    t.dutyRequest = 0 := if_neg h

/-- cap_T (R56, R59). -/
theorem capNow_spec (t : State) :
    (t.thu.sensorFault = true → t.capNow = 0) ∧
    ∀ a b, t.thu.sensorFault = false → t.thu.tmin = some a → t.thu.tmax = some b →
      t.capNow = min (curveAt t.mdu.cfg.curve a) (curveAt t.mdu.cfg.curve b) := by
  refine ⟨fun h => ?_, fun a b h ha hb => ?_⟩
  · rw [State.capNow, h]
    rfl
  · rw [State.capNow, h, ha, hb]
    rfl

/-! ## The heater state (R63 to R65) -/

/-- The heater state of a scan by the mat sensor, the cells and the state before it. -/
theorem nextHeater_spec (s : State) :
    ((s.mfe.record.temps.th = none ∨ ∃ x, s.mfe.record.temps.th = some x ∧ s.mdu.cfg.thMax < x) →
      s.nextHeater = .lockout) ∧
    ∀ x, s.mfe.record.temps.th = some x → x ≤ s.mdu.cfg.thMax →
      (s.thu.heater = .lockout → s.nextHeater = if x ≤ s.mdu.cfg.thMax - 100 then .off else .lockout) ∧
      (s.thu.heater ≠ .lockout → s.thu.sensorFault = true → s.nextHeater = .off) ∧
      (∀ a, s.thu.heater = .off → s.thu.sensorFault = false → s.thu.tmin = some a →
        s.nextHeater = if a < s.mdu.cfg.tOn then .on else .off) ∧
      (∀ a, s.thu.heater = .on → s.thu.sensorFault = false → s.thu.tmin = some a →
        s.nextHeater = if s.mdu.cfg.tOff ≤ a then .off else .on) := by
  refine ⟨fun h => ?_, fun x hx hle => ?_⟩
  · refine if_pos ?_
    obtain h | ⟨x, h, hlt⟩ := h
    · rw [h]
      rfl
    · rw [h]
      exact decide_eq_true hlt
  · have hcool : ¬ matHot s.mfe.record.temps.th s.mdu.cfg.thMax = true := by
      rw [hx]
      simpa [matHot] using hle
    rw [State.nextHeater, if_neg hcool, hx]
    refine ⟨fun h => ?_, fun h hf => ?_, fun a h hf ha => ?_, fun a h hf ha => ?_⟩
    · rw [if_pos h]
      simp [matCool]
    · rw [if_neg h, hf]
      cases hh : s.thu.heater <;> simp_all [heaterAfter]
    · rw [if_neg (by simp [h]), h, hf, ha]
      rfl
    · rw [if_neg (by simp [h]), h, hf, ha]
      rfl

/-! ## The share engine (R73, R85 to R88) -/

/-- The demand of a thermal update (R73). -/
theorem demandNow_eq (t : State) :
    t.demandNow =
      if t.slu.session.isOpen = true ∧ t.mdu.mode = .run ∧ t.mfe.line = .good ∧ 1000 ≤ t.ustr then
        ceilDiv (ceilDiv ((t.thu.idcCap * t.ustr / 100 + t.thu.phReq) * 1000) t.mdu.cfg.yield * 100)
            (max t.mfe.urms 1800)
      else 0 := by
  unfold State.demandNow demandOf
  by_cases hgate : t.slu.session.isOpen = true ∧ t.mdu.mode = .run ∧ t.mfe.line = .good
  · obtain ⟨ho, hm, hl⟩ := hgate
    by_cases hu : t.ustr < 1000
    · rw [if_pos ⟨ho, hm, hl⟩, if_pos hu, if_neg (by omega)]
    · rw [if_pos ⟨ho, hm, hl⟩, if_neg hu, if_pos ⟨ho, hm, hl, by omega⟩]
  · rw [if_neg hgate, if_neg fun h => hgate ⟨h.1, h.2.1, h.2.2.1⟩]

/-- The conversion stage by stage, over D, the thermal unit and the string voltage (R85, R87). -/
theorem State.Converted.stages {t : State} (h : t.Converted) :
    t.she.pInAvail = t.she.drawn * t.mfe.urms / 100 ∧ t.she.pDcAvail = t.she.pInAvail * t.mdu.cfg.yield / 1000 ∧
    t.she.dutyApplied = (if t.thu.phFull = 0 then 0 else min t.thu.dutyReq (t.she.pDcAvail * 16 / t.thu.phFull)) ∧
    t.she.phApplied = t.she.dutyApplied * t.thu.phFull / 16 ∧
    t.she.idcSet = (if t.she.hold = true ∨ t.ustr < 1000 then 0
      else min t.thu.idcCap ((t.she.pDcAvail - t.she.phApplied) * 100 / t.ustr)) ∧
    t.she.chgEn = decide (0 < t.she.idcSet) ∧ t.she.iRef = t.she.idcSet ∧
    t.thu.inForce = (if t.thu.heater = .on ∧ t.slu.session.isOpen = true ∧ t.mdu.mode = .run then t.she.dutyApplied
      else 0) := by
  refine ⟨h.pIn, ?_, ?_, ?_, ?_, h.chgEn, h.iRef, h.inForce⟩
  · rw [h.pDc, h.pIn]
    rfl
  · rw [h.duty, h.pDc]
    rfl
  · rw [h.ph, h.duty]
    rfl
  · rw [h.idc, h.pDc, h.ph]
    rfl

/-! ## The sensor condition begins (R56, R141) -/

theorem sensorStep_begins {s : State} (hlow : s.thu.validCount < 2) (hfault : s.thu.sensorFault = false) :
    s.sensorStep = (State.latch .thermSensor { s with thu.sensorFault := true }).thermalFault := by
  rw [State.sensorStep, if_pos hlow, if_neg (by simp [hfault])]

theorem thermalFault_latched (s : State) {f : Flag} (hf : f ≠ .log) : s.thermalFault.latched f = s.latched f := by
  unfold State.thermalFault
  split
  · exact endSession_latched s _ hf
  · rfl

/-- With THERM_SENSOR latched no session may open, so that none is OPEN after the thermal fault (R138, R141). -/
theorem thermalFault_shut {s : State} (hmode : s.mdu.mode.handlesSessions = true) (h : s.latched .thermSensor = true) :
    s.thermalFault.Shut := by
  have hlatched := (thermalFault_latched s (f := .thermSensor) (by decide)).trans h
  refine ⟨?_, fun _ => by simp [State.mayOpen, hlatched]⟩
  rw [State.thermalFault, if_pos hmode]
  exact endSession_isOpen s _

/-- The latch of THERM_SENSOR while a session is OPEN: it goes on, with its id and stamp (R145, R156). -/
theorem latchThermSensor_opened {s : State} {o : OpenRecord} {left : Option Nat} (ho : s.slu.session = .opened o left) :
    (s.latch .thermSensor).slu.buffer = s.slu.buffer ∧ (s.latch .thermSensor).slu.table = s.slu.table ∧
    ∃ o', (s.latch .thermSensor).slu.session = .opened o' left ∧ o'.id = o.id ∧ o'.opened = o.opened := by
  have hpend : s.slu.session.isPending = false := by rw [ho]; rfl
  have hopening : (s.raiseFlag .thermSensor).openingTest = s.raiseFlag .thermSensor :=
    openingTest_of_not_pending (by simpa using hpend)
  obtain e | e | e := latch_cases (f := .thermSensor) (.inl rfl) (by decide) s
  · rw [e]
    exact ⟨rfl, rfl, o, ho, rfl, rfl⟩
  · rw [e]
    exact ⟨by simp, by simp, raiseFlag_opened ho _⟩
  · rw [e, hopening]
    exact ⟨by simp, by simp, raiseFlag_opened ho _⟩

/-- The thermal fault of a scan ends the OPEN session (R141). -/
theorem sensorStep_ends {s : State} (hmode : s.mdu.mode.handlesSessions = true) (hlow : s.thu.validCount < 2)
    (hfault : s.thu.sensorFault = false) {o : OpenRecord} {left : Option Nat} (ho : s.slu.session = .opened o left) :
    EndedWith o .thermalFault s s.sensorStep := by
  obtain ⟨hbuffer, htable, o', ho', hid, hstamp⟩ :=
    latchThermSensor_opened (s := { s with thu.sensorFault := true }) (o := o) (left := left) ho
  rw [sensorStep_begins hlow hfault, State.thermalFault, if_pos (by simpa using hmode)]
  exact (endSession_endedWith ho' _).of_slu hbuffer.symm htable.symm rfl hid.symm hstamp.symm

/-- The steps of a scan after the sensor condition, outside CONFIG_HOLD. -/
theorem scanStep_afterSensors (s : State) :
    ScanStep s s.heaterStep.capStep.powerStep.thermalUpdate :=
  (scanStep_heaterStep s).trans (.trans (t := s.heaterStep.capStep.powerStep)
    (.of_eq (by simp) (by simp) (by simp) (by simp) (by simp) (by simp)) (scanStep_thermalUpdate _))

/-- What the beginning of the sensor condition leaves of a scan: the flag, and no session OPEN outside CONFIG_HOLD. -/
theorem thermalScan_begins {s : State} (hruns : s.mdu.mode.runs = true) (hfault : s.thu.sensorFault = false)
    (hlow : (cellTemps s.mfe.record.temps).length < 2) :
    s.thermalScan.latched .thermSensor = true ∧
    (s.mdu.mode ≠ .configHold → s.thermalScan.slu.session.isOpen = false ∧
      ∀ o left, s.slu.session = .opened o left → EndedWith o .thermalFault s s.thermalScan) := by
  have hbegins : s.cellStep.sensorStep =
      (State.latch .thermSensor { s.cellStep with thu.sensorFault := true }).thermalFault :=
    sensorStep_begins (by simpa using hlow) (by simpa using hfault)
  have hlatched : s.cellStep.sensorStep.latched .thermSensor = true := by
    rw [hbegins, thermalFault_latched _ (by decide)]
    exact latch_latched _ _
  by_cases hmode : s.mdu.mode = .configHold
  · refine ⟨?_, fun h => absurd hmode h⟩
    have hscan : s.thermalScan = s.cellStep.sensorStep.thermalHold.thermalUpdate := if_pos hmode
    rw [hscan]
    simpa [State.latched] using hlatched
  · have hscan : s.thermalScan = s.cellStep.sensorStep.heaterStep.capStep.powerStep.thermalUpdate := if_neg hmode
    have hhandles := handlesSessions_of_runs hruns hmode
    have hshut : s.cellStep.sensorStep.Shut := by
      rw [hbegins]
      exact thermalFault_shut (by simpa using hhandles) (latch_latched _ _)
    obtain ⟨hafter, hslu⟩ := (scanStep_afterSensors s.cellStep.sensorStep).shut hshut
    rw [hscan]
    refine ⟨?_, fun _ => ⟨hafter.1, fun o left ho => ?_⟩⟩
    · have hheat := (moves_heaterStep s.cellStep.sensorStep).keeps Move.keepsFlag hlatched
      simpa [State.latched] using hheat
    · have hends := sensorStep_ends (s := s.cellStep) (o := o) (left := left) (by simpa using hhandles)
        (by simpa using hlow) (by simpa using hfault) (by simpa using ho)
      exact hends.of_slu (by simp) (by simp) hslu rfl rfl

/-! ## The flags of a scan -/

/-- HEATER_HOT is latched at the entry into the lockout (R63). -/
theorem thermalScan_heaterHot {s : State} (hmode : s.mdu.mode ≠ .configHold)
    (hhot : matHot s.mfe.record.temps.th s.mdu.cfg.thMax = true) (hheat : s.thu.heater ≠ .lockout) :
    s.thermalScan.latched .heaterHot = true := by
  have hscan : s.thermalScan = s.cellStep.sensorStep.heaterStep.capStep.powerStep.thermalUpdate := if_neg hmode
  have hsensed := sensorStep_sensed s
  have hmdu : s.cellStep.sensorStep.mdu = s.mdu := by simp
  rw [hscan]
  generalize s.cellStep.sensorStep = u at *
  have htemps : u.mfe.record = s.mfe.record := by
    rw [hsensed.mfe]
    rfl
  have hstep : u.heaterStep = (u.setHeater .lockout).latch .heaterHot := by
    rw [State.heaterStep, if_pos (by rw [htemps, hmdu]; exact hhot), if_neg (by rw [hsensed.heater]; exact hheat)]
  have hlatched := latch_latched (u.setHeater .lockout) .heaterHot
  rw [← hstep] at hlatched
  simpa [State.latched] using hlatched

/-- In CONFIG_HOLD a latch raises its own flag alone (R136, R156). -/
theorem latch_hold {s : State} (hmode : s.mdu.mode = .configHold) {f g : Flag} (hf : f ≠ .dupId) (hg : g ≠ f) :
    (s.latch f).latched g = s.latched g := by
  cases h : s.latched f
  · rw [latch_session hf h, if_neg (by simp [hmode, Mode.handlesSessions]), raiseFlag_latched]
    simp [hg]
  · rw [latch_again h]

/-- In CONFIG_HOLD the thermal unit's scan leaves HEATER_HOT (R54). -/
theorem thermalScan_hold_heaterHot {s : State} (hmode : s.mdu.mode = .configHold) :
    s.thermalScan.latched .heaterHot = s.latched .heaterHot := by
  have hscan : s.thermalScan = s.cellStep.sensorStep.thermalHold.thermalUpdate := if_pos hmode
  have hsensor : ∀ u : State, u.mdu.mode = .configHold → u.sensorStep.latched .heaterHot = u.latched .heaterHot := by
    intro u hu
    unfold State.sensorStep
    split
    · split
      · rfl
      · rw [thermalFault_latched _ (by decide)]
        exact latch_hold (s := { u with thu.sensorFault := true }) hu (by decide) (by decide)
    · rfl
  rw [hscan]
  have hcells := hsensor s.cellStep (by simpa using hmode)
  simpa [State.latched] using hcells

theorem finishScan_hold_heaterHot {s : State} (hmode : s.mdu.mode = .configHold) (ustr : BitVec 12)
    (temps : Sensors (Option Int)) (ref : BitVec 12) :
    (s.finishScan ustr temps ref).latched .heaterHot = s.latched .heaterHot := by
  unfold State.finishScan State.refLatch
  split
  · exact latch_hold (s := { s with
      mfe.history := Sensors.zip historyAfter s.mfe.history temps
      mfe.refCount := refCountAfter ref s.mfe.refCount }) hmode (by decide) (by decide)
  · rfl

/-- A scan at which FRONTEND is not latched anew leaves the session unit before the thermal unit's scan (R16). -/
theorem finishScan_slu {s : State} {ustr : BitVec 12} {temps : Sensors (Option Int)} {ref : BitVec 12}
    (h : (s.finishScan ustr temps ref).latched .frontEnd = true → s.latched .frontEnd = true) :
    (s.finishScan ustr temps ref).slu = s.slu := by
  generalize hw : ({ s with
    mfe.history := Sensors.zip historyAfter s.mfe.history temps
    mfe.refCount := refCountAfter ref s.mfe.refCount } : State) = w
  have hfinish : s.finishScan ustr temps ref =
      State.publishScan { ustr := some (ustrOf ustr), temps := Sensors.zip filtered s.mfe.history temps }
        (w.refLatch s.mfe.refCount) := by rw [← hw]; rfl
  have hflags : w.latched .frontEnd = s.latched .frontEnd := by rw [← hw]; rfl
  have hsame : w.refLatch s.mfe.refCount = w := by
    by_cases hlatch : s.mfe.refCount < 2 ∧ w.mfe.refCount = 2
    · have e : w.refLatch s.mfe.refCount = w.latch .frontEnd := if_pos hlatch
      rw [hfinish, e] at h
      rw [e]
      exact latch_again (hflags.trans (h (latch_latched w .frontEnd)))
    · exact if_neg hlatch
  rw [hfinish, hsame, ← hw]
  rfl

/-- The thermal unit before its scan is that of the state before the scan but for the duty in force and HTR. -/
theorem finishScan_thermal (s : State) (ustr : BitVec 12) (temps : Sensors (Option Int)) (ref : BitVec 12) :
    (s.finishScan ustr temps ref).thu.heater = s.thu.heater ∧
    (s.finishScan ustr temps ref).thu.sensorFault = s.thu.sensorFault := by
  have hlatch := scanKept_refLatch { s with
    mfe.history := Sensors.zip historyAfter s.mfe.history temps
    mfe.refCount := refCountAfter ref s.mfe.refCount } s.mfe.refCount
  exact ⟨hlatch.heater, congrArg (·.2.2.2) hlatch.cells⟩

/-- Settles O12: the steps of the thermal unit's scan over the published record, and the conversion over them. -/
theorem thermalUpdate : Obligations.ThermalUpdate := by
  intro ustr t1 t2 t3 t4 th ref meterFirst s hruns hdorm
  refine ⟨_, scan_unexpired hdorm hruns .., ?_⟩
  have hkeeps := (moves_scanConsumers (s.finishScan ustr (convertTemps t1 t2 t3 t4 th) ref) meterFirst).keeps
    (Move.keepsFlag (f := .frontEnd))
  obtain ⟨e, e', hc⟩ := scanConsumers_cases (s.finishScan ustr (convertTemps t1 t2 t3 t4 th) ref) meterFirst
  have hslu := finishScan_slu (s := s) (ustr := ustr) (temps := convertTemps t1 t2 t3 t4 th) (ref := ref)
  have hhot := fun h => finishScan_hold_heaterHot (s := s) h ustr (convertTemps t1 t2 t3 t4 th) ref
  obtain ⟨hheater, hfault⟩ := finishScan_thermal s ustr (convertTemps t1 t2 t3 t4 th) ref
  have hmfe := finishScan_front s ustr (convertTemps t1 t2 t3 t4 th) ref
  obtain ⟨hmdu, -⟩ := State.finishScan_rest s ustr (convertTemps t1 t2 t3 t4 th) ref
  rw [hc] at hkeeps ⊢
  generalize hw : { s.finishScan ustr (convertTemps t1 t2 t3 t4 th) ref with emt := e } = w at hkeeps ⊢
  have hwmdu : w.mdu = s.mdu := by rw [← hw]; exact hmdu
  have hwslu : (w.latched .frontEnd = true → s.latched .frontEnd = true) → w.slu = s.slu := by rw [← hw]; exact hslu
  have hwhot : s.mdu.mode = .configHold → w.latched .heaterHot = s.latched .heaterHot := by rw [← hw]; exact hhot
  have hwheater : w.thu.heater = s.thu.heater := by rw [← hw]; exact hheater
  have hwfault : w.thu.sensorFault = s.thu.sensorFault := by rw [← hw]; exact hfault
  have hwustr : w.mfe.record.ustr = some (ustr.toNat * 5 / 4) := by rw [← hw]; exact congrArg (·.record.ustr) hmfe
  have hwline : w.mfe.line = s.mfe.line := by rw [← hw]; exact congrArg (·.line) hmfe
  have hwurms : w.mfe.urms = s.mfe.urms := by rw [← hw]; exact congrArg (·.urms) hmfe
  have hvmdu : w.thermalScan.mdu = s.mdu := by simp [hwmdu]
  obtain ⟨hfront, hsensed, hconv⟩ : FrontKept w w.thermalScan ∧ w.thermalScan.Sensed ∧ w.thermalScan.Converted := by
    by_cases h : w.mdu.mode = .configHold
    · obtain ⟨hf, hs, hcv, -⟩ := thermalScan_hold h
      exact ⟨hf, hs, hcv⟩
    · obtain ⟨hf, hs, -, -, hcv⟩ := thermalScan_running h
      exact ⟨hf, hs, hcv⟩
  have hrunning := thermalScan_running (s := w)
  have hholding := thermalScan_hold (s := w)
  have hbegins := thermalScan_begins (s := w) (by rwa [hwmdu])
  have hheaterHot := thermalScan_heaterHot (s := w)
  have hholdHot := thermalScan_hold_heaterHot (s := w)
  have hnext := nextHeater_spec w.sensed
  have htemps : w.thermalScan.mfe.record = w.mfe.record := by rw [hfront]
  have hvustr : w.thermalScan.ustr = ustr.toNat * 5 / 4 := by rw [State.ustr, htemps, hwustr]; rfl
  have hvline : w.thermalScan.mfe.line = s.mfe.line := by rw [hfront]; exact hwline
  have hvurms : w.thermalScan.mfe.urms = s.mfe.urms := by rw [hfront]; exact hwurms
  have hsensedThu : w.sensed.thu.sensorFault = w.thermalScan.thu.sensorFault ∧
      w.sensed.thu.tmin = w.thermalScan.thu.tmin := by
    rw [hsensed.fault, hsensed.tmin, hsensed.count, htemps]
    exact ⟨rfl, rfl⟩
  obtain ⟨hcount, htmin, htmax⟩ := hsensed.cells
  obtain ⟨hpIn, hpDc, hduty, hph, hidc, hchg, hiref, hforce⟩ := hconv.stages
  have hdemand := hconv.demand.trans (demandNow_eq _)
  rw [hvustr] at hidc hdemand
  rw [hvmdu, hvline, hvurms] at hdemand
  rw [hvurms] at hpIn
  rw [hvmdu] at hpDc hforce
  refine ⟨hvmdu, hcount, htmin, htmax, hsensed.fault, fun hbefore hafter => ?_, fun hmode => ?_, fun hmode => ?_,
    hdemand, hconv.wanting, hpIn, hpDc, hduty, hph, hidc, hchg, hiref, hforce⟩
  · have hlow : (cellTemps w.mfe.record.temps).length < 2 := by
      rw [← htemps, ← hsensed.count]
      exact of_decide_eq_true (hsensed.fault.symm.trans hafter)
    obtain ⟨hlatched, hends⟩ := hbegins (hwfault.trans hbefore) hlow
    refine ⟨hlatched, fun hmode => ?_⟩
    obtain ⟨hclosed, hended⟩ := hends (by rwa [hwmdu])
    refine ⟨hclosed, fun o left ho hfe => ?_⟩
    have hslu' : w.slu = s.slu := hwslu fun h => hfe (hkeeps (by rw [← hw] at h; exact h))
    exact (hended o left (by rwa [hslu'])).of_slu (by rw [hslu']) (by rw [hslu']) rfl rfl rfl
  · obtain ⟨-, -, -, hoff, hcap, htaper, hidcCap, hreq, hfull, hphReq, hhtr⟩ := hholding (by rwa [hwmdu])
    exact ⟨hoff, hcap, htaper, hidcCap, hreq, hfull, hphReq, hhtr,
      (hholdHot (by rwa [hwmdu])).trans (hwhot hmode)⟩
  · obtain ⟨-, -, hcapped, hheat, -⟩ := hrunning (by rwa [hwmdu])
    obtain ⟨hcapFault, hcapCurve⟩ := capNow_spec w.thermalScan
    have hcfg : w.thermalScan.mdu.cfg = s.mdu.cfg := by rw [hvmdu]
    have htaper := hcapped.taper
    have hidcCap := hcapped.idcCap
    have hfull := hcapped.phFull
    rw [State.taperNow, hvustr, hcfg] at htaper
    rw [hcfg] at hidcCap hcapCurve
    rw [hvustr, hcfg] at hfull
    have hon := fun hm ho hh a ha => dutyRequest_on (t := w.thermalScan) (a := a) hm ho hh ha
    rw [hcfg] at hon
    obtain ⟨hlock, hvalid⟩ := hnext
    have hwcfg : w.sensed.mdu.cfg = s.mdu.cfg := by
      show w.mdu.cfg = s.mdu.cfg
      rw [hwmdu]
    have hwheat : w.sensed.thu.heater = s.thu.heater := hwheater
    have hwth : w.sensed.mfe.record.temps.th = w.thermalScan.mfe.record.temps.th := by rw [htemps]; rfl
    rw [← hheat, hwcfg, hwth] at hlock
    rw [← hheat, hwcfg, hwth, hwheat, hsensedThu.1, hsensedThu.2] at hvalid
    refine ⟨htaper, fun h => hcapped.capT.trans (hcapFault h),
      fun a b h ha hb => hcapped.capT.trans (hcapCurve a b h ha hb),
      hidcCap, fun h => hcapped.dutyReq.trans (dutyRequest_off h), fun a hm ho hh ha => ?_, hfull, hcapped.phReq,
      fun h => ⟨hlock h, fun hne => ?_⟩, hvalid⟩
    · obtain ⟨hlow, hbetween⟩ := hon hm ho hh a ha
      exact ⟨fun h => hcapped.dutyReq.trans (hlow h),
        fun h h' => (congrArg Nat.cast hcapped.dutyReq).trans (hbetween h h')⟩
    · refine hheaterHot (by rwa [hwmdu]) ?_ (by rwa [hwheater])
      rw [← htemps, hwmdu]
      obtain h | ⟨x, h, hlt⟩ := h
      · exact (congrArg (matHot · _) h).trans rfl
      · exact (congrArg (matHot · _) h).trans (decide_eq_true hlt)

end Sys2Proof.Machine
end

section
/-! PROOF. The own beacon period (O40): the claim of a period, the ageing of the view, and the change to RUN. -/

namespace Sys2Proof.Machine

/-! ## The claim of a period (R75 to R78) -/

/-- A sharer of the phase as the computation reads it (R75). -/
def Mate.ofSharer (e : Bool × ModulePart) : Mate := { fresh := e.1, claim := e.2.claim, wanting := e.2.wanting }

/-- The set S of a computation is the sharers of the own phase (R75). -/
theorem samePhase_eq (phase : Nat) (view : List Entry) :
    samePhase phase view = (sharers phase view).map Mate.ofSharer := by
  rw [samePhase, sharers, List.map_filterMap]
  refine congrArg (List.filterMap · view) (funext fun e => ?_)
  cases hr : e.role <;> cases hp : e.part <;> simp only [Entry.mate, hr, hp, Option.map_none]
  split <;> rfl

theorem othersClaim_eq (set : List (Bool × ModulePart)) :
    othersClaim (set.map Mate.ofSharer) = (set.map fun e => e.2.claim).sum := by
  rw [othersClaim, List.map_map]
  rfl

theorem starved_iff (f : Nat) (set : List (Bool × ModulePart)) :
    starved f (set.map Mate.ofSharer) = true ↔ ∃ e ∈ set, e.1 = true ∧ e.2.wanting = true ∧ e.2.claim < f := by
  simp only [starved, List.any_map, List.any_eq_true, Function.comp_apply, Mate.ofSharer, Bool.and_eq_true,
    and_assoc]
  exact exists_congr fun _ => and_congr_right fun _ => and_congr_right fun _ =>
    and_congr_right fun _ => decide_eq_true_iff

theorem wantingCount_eq (own : Bool) (set : List (Bool × ModulePart)) :
    wantingCount own (set.map Mate.ofSharer) =
      max 1 ((if own then 1 else 0) + set.countP fun e => e.1 && e.2.wanting) := by
  rw [wantingCount, List.countP_map]
  rfl

theorem overCount_eq (c f : Nat) (set : List (Bool × ModulePart)) :
    overCount c f (set.map Mate.ofSharer) =
      max 1 ((if f < c then 1 else 0) + set.countP fun e => decide (f < e.2.claim)) := by
  rw [overCount, List.countP_map]
  rfl

/-- With headroom the candidate is the ramp or the give-back (R77). -/
theorem candidate_headroom {c p : Nat} {set : List Mate} (h : othersClaim set + c ≤ p) (ramp : Nat) (own : Bool) :
    candidate c ramp own p set =
      rampCandidate c ramp (fairShare p set) (wantingCount own set) (p - othersClaim set - c) set := by
  have hpos : 0 ≤ headroom p set c := by rw [headroom]; omega
  have hnat : (headroom p set c).toNat = p - othersClaim set - c := by rw [headroom]; omega
  rw [candidate, if_pos hpos, hnat]

/-- Without headroom it is the overcommit shed (R78). -/
theorem candidate_overcommitted {c p : Nat} {set : List Mate} (h : p < othersClaim set + c) (ramp : Nat) (own : Bool) :
    candidate c ramp own p set = shedCandidate c (fairShare p set) (othersClaim set + c - p) set := by
  have hneg : ¬ 0 ≤ headroom p set c := by rw [headroom]; omega
  have hnat : (-headroom p set c).toNat = othersClaim set + c - p := by rw [headroom]; omega
  rw [candidate, if_neg hneg, hnat]

/-- The claim of a computation with no zeroing condition (R76 to R79). -/
theorem computedClaim_after {s : State} (h : s.claimBarred = false) (view : List Entry) :
    ClaimAfter (sharers s.mdu.phase view) (s.ownLimit - s.mdu.cfg.margin) s.mdu.cfg.ramp s.mdu.cfg.cmax s.she.demand
      s.she.claim s.she.wanting (s.computedClaim view) := by
  refine ⟨candidate s.she.claim s.mdu.cfg.ramp s.she.wanting (pool s.ownLimit s.mdu.cfg.margin)
    (samePhase s.mdu.phase view), by simp [State.computedClaim, h, pool], ?_⟩
  rw [samePhase_eq, ← pool]
  generalize sharers s.mdu.phase view = set
  generalize pool s.ownLimit s.mdu.cfg.margin = p
  have hfair : fairShare p (set.map Mate.ofSharer) = p / (set.length + 1) := by rw [fairShare, List.length_map]
  split
  · next hroom =>
    rw [candidate_headroom (by rwa [othersClaim_eq]), rampCandidate, othersClaim_eq, wantingCount_eq, hfair]
    split
    · next hstarved => exact if_pos ⟨(starved_iff _ _).2 hstarved.1, hstarved.2⟩
    · next hfed => exact if_neg fun h => hfed ⟨(starved_iff _ _).1 h.1, h.2⟩
  · next hover =>
    rw [candidate_overcommitted (by rw [othersClaim_eq]; omega), shedCandidate, othersClaim_eq, overCount_eq, hfair]
    rfl

/-- Without headroom a candidate does not rise (R77, R78). -/
theorem candidate_stays {c p : Nat} {set : List Mate} (h : p ≤ othersClaim set + c) (ramp : Nat) (own : Bool) :
    candidate c ramp own p set ≤ c := by
  by_cases hroom : othersClaim set + c ≤ p
  · rw [candidate_headroom hroom, rampCandidate]
    split
    · next hback => exact Nat.max_le.2 ⟨hback.2.le, Nat.sub_le _ _⟩
    · rw [show p - othersClaim set - c = 0 by omega]
      simp
  · rw [candidate_overcommitted (by omega)]
    exact Nat.max_le.2 ⟨Nat.min_le_left _ _, Nat.sub_le _ _⟩

/-- The bounds of a computed claim over the claim before it (R76 to R79). -/
theorem computedClaim_rise (s : State) (view : List Entry) :
    s.computedClaim view ≤ s.she.claim + s.mdu.cfg.ramp ∧
    (s.ownLimit ≤ s.mdu.cfg.margin + othersClaim (samePhase s.mdu.phase view) + s.she.claim →
      s.computedClaim view ≤ s.she.claim) := by
  unfold State.computedClaim
  split
  · exact ⟨Nat.zero_le _, fun _ => Nat.zero_le _⟩
  · refine ⟨(Nat.min_le_left _ _).trans (candidate_le ..),
      fun h => (Nat.min_le_left _ _).trans (candidate_stays ?_ _ _)⟩
    rw [pool]
    omega

/-! ## The period (R38, R41, R80) -/

/-- The claim of a period, whichever view it reads (R80). -/
theorem periodClaim_she (s : State) (view : List Entry) :
    (s.periodClaim view).she.claim = s.computedClaim view ∧ (s.periodClaim view).she.demand = s.she.demand ∧
    (s.periodClaim view).she.wanting = decide (s.computedClaim view < s.she.demand) ∧
    (s.periodClaim view).she.claimTx = s.she.claimTx ∧
    (s.periodClaim view).she.drawn = min (s.computedClaim view) s.she.claimTx := by
  unfold State.periodClaim
  split <;> simp [convert_spec]

/-- The view aged by one period (R38). -/
theorem agedView_eq (view : List Entry) :
    agedView view = view.filterMap fun e => if e.age + 1 < 8 then some { e with age := e.age + 1 } else none := by
  refine congrArg (List.filterMap · view) (funext fun e => ?_)
  unfold Entry.older
  by_cases h : e.age + 1 < 8
  · rw [if_pos h, if_neg (by omega)]
  · rw [if_neg h, if_pos (by omega)]

/-- In either order the claim of a period is one computation, over the view before or after the ageing (R38, R80). -/
theorem ageAndClaim_spec (s : State) (ageFirst : Bool) :
    (s.ageAndClaim ageFirst).pvt = s.ageView.pvt ∧
    (s.ageAndClaim ageFirst).she.claim = s.computedClaim (if ageFirst then agedView s.pvt.view else s.pvt.view) ∧
    (s.ageAndClaim ageFirst).she.demand = s.she.demand ∧
    (s.ageAndClaim ageFirst).she.wanting =
      decide ((s.ageAndClaim ageFirst).she.claim < (s.ageAndClaim ageFirst).she.demand) ∧
    (s.ageAndClaim ageFirst).she.claimTx = s.she.claimTx ∧
    (s.ageAndClaim ageFirst).she.drawn =
      min (s.ageAndClaim ageFirst).she.claim (s.ageAndClaim ageFirst).she.claimTx := by
  have haged : ∀ view, s.ageView.computedClaim view = s.computedClaim view := by
    intro view
    have hbar : s.ageView.claimBarred = s.claimBarred :=
      claimBarred_congr (by simp) (by simp) (by simp) (by simp) (by simp)
    have hlimit : s.ageView.ownLimit = s.ownLimit := setView_ownLimit s _
    simp [State.computedClaim, hbar, hlimit]
  cases ageFirst
  · obtain ⟨hc, hd, hw, htx, hdr⟩ := periodClaim_she s s.pvt.view
    have hage : s.ageAndClaim false = (s.periodClaim s.pvt.view).ageView := rfl
    have hpvt : (s.periodClaim s.pvt.view).ageView.pvt = s.ageView.pvt := by simp [State.ageView, State.setView]
    simp only [hage, State.ageView_rest, hc, hd, hw, htx, hdr]
    exact ⟨hpvt, rfl, trivial, trivial, trivial, trivial⟩
  · obtain ⟨hc, hd, hw, htx, hdr⟩ := periodClaim_she s.ageView s.ageView.pvt.view
    have hage : s.ageAndClaim true = s.ageView.periodClaim s.ageView.pvt.view := rfl
    have hview : s.ageView.pvt.view = agedView s.pvt.view := by simp [State.ageView]
    rw [hage, hc, hd, hw, htx, hdr, haged, hview]
    exact ⟨by simp, rfl, by simp, by simp, by simp, by simp⟩

/-- The state of a period before the listening count (R38, R41, R80, R169). -/
def State.periodBegun (ageFirst : Bool) (s : State) : State :=
  ({ s with mdu.beaconTimer := some s.beaconPeriod }.ageAndClaim ageFirst).requestBeacon

theorem exec_ownBeaconPeriod {s : State} (h : s.mdu.mode.runs = true) (ageFirst : Bool) :
    exec (.ownBeaconPeriod ageFirst) s = .next (s.periodBegun ageFirst).listenOn :=
  congrArg Host.Outcome.next (if_pos h)

@[simp] theorem State.periodBegun_rest (s : State) (ageFirst : Bool) :
    (s.periodBegun ageFirst).pins = s.pins ∧
    (s.periodBegun ageFirst).mdu = { s.mdu with beaconTimer := some s.beaconPeriod } ∧
    (s.periodBegun ageFirst).mfe = s.mfe ∧ (s.periodBegun ageFirst).clock = s.clock ∧
    (s.periodBegun ageFirst).imon = s.imon ∧ (s.periodBegun ageFirst).emt = s.emt ∧
    (s.periodBegun ageFirst).slu = s.slu ∧ (s.periodBegun ageFirst).flu = s.flu ∧
    (s.periodBegun ageFirst).store = s.store ∧ (s.periodBegun ageFirst).pvt = s.ageView.pvt ∧
    (s.periodBegun ageFirst).pbi.random = s.pbi.random := by
  have hpvt := (ageAndClaim_spec { s with mdu.beaconTimer := some s.beaconPeriod } ageFirst).1
  have hrequest : ∀ u : State, u.requestBeacon.pbi.random = u.pbi.random := by
    intro u
    unfold State.requestBeacon
    split <;> rfl
  simp [State.periodBegun, hpvt, hrequest, State.ageView, State.setView]

/-- What the share engine has after a period's computation (R80). -/
theorem periodBegun_she (s : State) (ageFirst : Bool) :
    (s.periodBegun ageFirst).she.claim = s.computedClaim (if ageFirst then agedView s.pvt.view else s.pvt.view) ∧
    (s.periodBegun ageFirst).she.demand = s.she.demand ∧
    (s.periodBegun ageFirst).she.wanting =
      decide ((s.periodBegun ageFirst).she.claim < (s.periodBegun ageFirst).she.demand) ∧
    (s.periodBegun ageFirst).she.claimTx = s.she.claimTx ∧
    (s.periodBegun ageFirst).she.drawn =
      min (s.periodBegun ageFirst).she.claim (s.periodBegun ageFirst).she.claimTx := by
  obtain ⟨-, hspec⟩ := ageAndClaim_spec { s with mdu.beaconTimer := some s.beaconPeriod } ageFirst
  simp only [State.periodBegun, State.requestBeacon_rest]
  exact hspec

theorem periodBegun_beacon {s : State} (h : s.pbi.attempt = none) (ageFirst : Bool) :
    (s.periodBegun ageFirst).pbi.beacon = some 0 := by
  have hrequest : ∀ u : State, u.pbi.attempt = none → u.requestBeacon.pbi.beacon = some 0 := by
    intro u hu
    rw [State.requestBeacon, if_neg (by simp [PeerBus.attempting, hu])]
  exact hrequest _ (by simpa using h)

/-! ## The change to RUN (R170) -/

theorem recompute_claim_none {s : State} (h : s.she.claim = 0) : s.recompute = s := if_neg (by omega)

/-- The opening of a session leaves a claim of 0, and the share engine with it (R81). -/
theorem openingTest_she {s : State} (h : s.she.claim = 0) : s.openingTest.she = s.she := by
  obtain ⟨id, left, -, -, e⟩ | e := openingTest_cases s <;> rw [e]
  rw [State.openSession, recompute_claim_none (by simpa using h)]
  simp

/-- A change to RUN with no claim: the sequencer may leave OFF, and a PENDING session may open (R96, R138, R170). -/
theorem modeReport_run {s : State} (hrun : s.mdu.mode = .run) (hclaim : s.she.claim = 0) :
    s.modeReport = s.applyDuty.leaveOff.openingTest ∧ s.modeReport.she = s.she := by
  have hreport : s.modeReport = s.applyDuty.leaveOff.openingTest := by
    rw [State.modeReport, State.shareMode, if_pos hrun, recompute_claim_none hclaim, State.monitorMode,
      if_pos (by simpa using hrun)]
  refine ⟨hreport, ?_⟩
  rw [hreport, openingTest_she (by simpa using hclaim)]
  simp

theorem leaveOff_line (s : State) : s.leaveOff.mfe.line = s.mfe.line ∧ s.leaveOff.pbi.beacon = s.pbi.beacon ∧
    s.leaveOff.imon.clearance = s.imon.clearance := by
  obtain ⟨-, -, left, e⟩ | e := leaveOff_cases s <;> simp [e]

/-- The mode unit as the third period of LISTENING leaves it (R170, R172). -/
def State.runBegun (s : State) : State :=
  { s with mdu.mode := .run, mdu.listening := s.mdu.listening + 1, mdu.dormantTimer := .running s.dormantTime }

theorem listenOn_third {s : State} (hmode : s.mdu.mode = .listening) (h : 2 ≤ s.mdu.listening) :
    s.listenOn = s.runBegun.modeReport := by
  rw [State.listenOn, if_pos hmode, if_pos (by omega)]
  rfl

theorem listenOn_early {s : State} (hmode : s.mdu.mode = .listening) (h : s.mdu.listening < 2) :
    s.listenOn = { s with mdu.listening := s.mdu.listening + 1 } := by
  rw [State.listenOn, if_pos hmode, if_neg (by omega)]

theorem listenOn_other {s : State} (hmode : s.mdu.mode ≠ .listening) : s.listenOn = s := if_neg hmode

/-- The listening count leaves the share engine, the line and the beacon slot while nothing is claimed in LISTENING. -/
theorem listenOn_keeps {s : State} (h : s.mdu.mode = .listening → s.she.claim = 0) :
    s.listenOn.she = s.she ∧ s.listenOn.mfe.line = s.mfe.line ∧ s.listenOn.pbi.beacon = s.pbi.beacon ∧
    s.listenOn.mdu.beaconTimer = s.mdu.beaconTimer := by
  by_cases hmode : s.mdu.mode = .listening
  · by_cases hearly : s.mdu.listening < 2
    · rw [listenOn_early hmode hearly]
      exact ⟨rfl, rfl, rfl, rfl⟩
    · obtain ⟨hreport, hshe⟩ := modeReport_run (s := s.runBegun) rfl (h hmode)
      obtain ⟨hline, hbeacon, -⟩ := leaveOff_line s.runBegun.applyDuty
      rw [listenOn_third hmode (by omega)]
      refine ⟨hshe, ?_, ?_, by simp [State.runBegun]⟩
      · rw [hreport, State.openingTest_rest _ |>.2.2.1, hline]
        simp [State.runBegun]
      · rw [hreport, State.openingTest_rest _ |>.2.2.2.1, hbeacon]
        simp [State.runBegun]
  · rw [listenOn_other hmode]
    exact ⟨rfl, rfl, rfl, rfl⟩

/-- The sequencer and the session at the change to RUN (R96, R138, R170). -/
theorem runBegun_report {s : State} (hclaim : s.she.claim = 0) :
    (s.imon.seq = .off ∧ s.latched .injector = false ∧ s.latched .dupId = false ∧ s.latched .config = false →
      LeavesOff s s.runBegun.modeReport) ∧
    (¬ (s.imon.seq = .off ∧ s.latched .injector = false ∧ s.latched .dupId = false ∧ s.latched .config = false) →
      s.runBegun.modeReport.imon = s.imon ∧ s.runBegun.modeReport.pbi.random = s.pbi.random) ∧
    (∀ id left, s.slu.session = .pending id left →
      (s.mfe.line = .good ∧ s.imon.clearance = true ∧ s.latched .dupId = false ∧ s.latched .thermSensor = false ∧
        s.latched .frontEnd = false → Opens id s s.runBegun.modeReport) ∧
      (¬ (s.mfe.line = .good ∧ s.imon.clearance = true ∧ s.latched .dupId = false ∧ s.latched .thermSensor = false ∧
        s.latched .frontEnd = false) → s.runBegun.modeReport.slu = s.slu)) ∧
    (s.slu.session.isPending = false → s.runBegun.modeReport.slu = s.slu) := by
  obtain ⟨hreport, -⟩ := modeReport_run (s := s.runBegun) rfl hclaim
  rw [hreport]
  generalize hu : s.runBegun.applyDuty = u
  have himon : u.imon = s.imon := by rw [← hu]; simp [State.runBegun]
  have hpbi : u.pbi = s.pbi := by rw [← hu]; simp [State.runBegun]
  have hslu : u.slu = s.slu := by rw [← hu]; simp [State.runBegun]
  have hflu : u.flu = s.flu := by rw [← hu]; simp [State.runBegun]
  have hclock : u.clock = s.clock := by rw [← hu]; simp [State.runBegun]
  have hline : u.mfe.line = s.mfe.line := by rw [← hu]; simp [State.runBegun]
  have hmdu : u.mdu = s.runBegun.mdu := by rw [← hu]; simp
  have hbarred : u.sequencerBarred = (s.latched .injector || s.latched .dupId || s.latched .config) := by
    simp [State.sequencerBarred, State.latched, hmdu, hflu, State.runBegun]
  have hmay : u.leaveOff.mayOpen = true ↔ s.mfe.line = .good ∧ s.imon.clearance = true ∧ s.latched .dupId = false ∧
      s.latched .thermSensor = false ∧ s.latched .frontEnd = false := by
    simp [mayOpen_iff, himon, hline, hmdu, State.latched, hflu, State.runBegun]
  refine ⟨fun ⟨hoff, hi, hd, hc⟩ => ?_, fun hnot => ?_, fun id left hp => ⟨fun hopen => ?_, fun hnot => ?_⟩,
    fun hp => ?_⟩
  · have hleaves := leaveOff_leaves (s := u) (by rw [himon, hoff]) (by simp [hbarred, hi, hd, hc])
    simpa [LeavesOff, himon, hpbi, hslu, hmdu, State.runBegun] using hleaves
  · have hstays : u.leaveOff = u := by
      refine leaveOff_stays ?_
      rw [himon, hbarred]
      by_cases hoff : s.imon.seq = .off
      · refine .inr ?_
        by_contra hfree
        simp only [Bool.or_eq_true, not_or, Bool.not_eq_true] at hfree
        exact hnot ⟨hoff, hfree.1.1, hfree.1.2, hfree.2⟩
      · exact .inl hoff
    rw [hstays]
    exact ⟨by simp [himon], by simp [hpbi]⟩
  · have hopens := openingTest_opens (s := u.leaveOff) (id := id) (left := left) (by simp [hslu, hp]) (hmay.2 hopen)
    simpa [Opens, hmdu, hclock, State.runBegun] using hopens
  · rw [openingTest_of_not_mayOpen (Bool.eq_false_iff.2 fun h => hnot (hmay.1 h))]
    simp [hslu]
  · rw [openingTest_of_not_pending (by simpa [hslu] using hp)]
    simp [hslu]

/-- Settles O40: the view ages, the claim is one computation, and the third period of LISTENING begins RUN. -/
theorem ownBeaconPeriod : Obligations.OwnBeaconPeriod := by
  intro ageFirst s hruns
  refine ⟨_, exec_ownBeaconPeriod hruns ageFirst, ?_⟩
  obtain ⟨hclaim, hdemand, hwanting, htx, hdrawn⟩ := periodBegun_she s ageFirst
  obtain ⟨hpins, hmdu, hmfe, hclock, himon, -, hslu, hflu, hstore, hpvt, hrandom⟩ := State.periodBegun_rest s ageFirst
  have hbeacon := fun h => periodBegun_beacon (s := s) h ageFirst
  generalize s.periodBegun ageFirst = w at *
  have hbarred : s.claimBarred = true → w.she.claim = 0 := fun h => by rw [hclaim, computedClaim_barred h]
  have hlistening : w.mdu.mode = .listening → w.she.claim = 0 := by
    rw [hmdu]
    exact fun h => hbarred (by simp [State.claimBarred, show s.mdu.mode = .listening from h])
  obtain ⟨hshe, hline, hslot, htimer⟩ := listenOn_keeps hlistening
  obtain ⟨tpins, tpvt, tclock, tflu, tstore, -⟩ := State.listenOn_rest w
  have hview : s.ageView.pvt.view = agedView s.pvt.view := by simp [State.ageView]
  obtain ⟨hrise, hroom⟩ := computedClaim_rise s (if ageFirst then agedView s.pvt.view else s.pvt.view)
  obtain ⟨hledemand, hlecmax, hlepool⟩ := computedClaim_le s (if ageFirst then agedView s.pvt.view else s.pvt.view)
  rw [hshe, tpvt, tclock, tflu, tstore, tpins, hline, hpvt, hview, htimer, hslot]
  refine ⟨agedView_eq _, hbeacon, ?_, fun hmode => ?_, fun hnot => ?_, fun hmode => ?_, fun r hr => ?_, fun hfree => ?_,
    hdemand, hwanting, hdrawn, htx, hclaim ▸ hrise, hclaim ▸ hlecmax, hclaim ▸ hledemand, hclaim ▸ hlepool, hbarred,
    fun h => hclaim ▸ hroom h, hflu, hclock, hstore, hpins, by rw [hmfe]⟩
  · rw [hmdu, State.beaconPeriod]
    cases s.mdu.mode <;> rfl
  · have hwmode : w.mdu.mode = .listening := by rw [hmdu]; exact hmode
    have hwcount : w.mdu.listening = s.mdu.listening := by rw [hmdu]
    refine ⟨?_, fun hearly => ?_, fun hthird => ?_⟩
    · by_cases h : w.mdu.listening < 2
      · rw [listenOn_early hwmode h, ← hwcount]
      · rw [listenOn_third hwmode (by omega), State.modeReport_rest _ |>.2.1, ← hwcount]
        rfl
    · rw [listenOn_early hwmode (by omega)]
      exact ⟨hwmode, by rw [hmdu]⟩
    · have hrun := runBegun_report (hlistening hwmode)
      have hwflags : ∀ f, w.latched f = s.latched f := fun f => by rw [State.latched, hflu]; rfl
      have hopens : ∀ id t, Opens id w t → Opens id s t := fun id t h => by
        rw [Opens, hmdu, hclock] at h
        exact h
      have hleaves : ∀ t, LeavesOff w t → LeavesOff s t := fun t h => by
        rw [LeavesOff, hrandom, hslu, himon, hmdu] at h
        exact h
      rw [listenOn_third hwmode (by omega), State.modeReport_rest _ |>.2.1]
      simp only [hwflags, himon, hslu, hrandom, hmfe] at hrun
      obtain ⟨hoff, hstay, hpending, hclosed⟩ := hrun
      refine ⟨rfl, ?_, fun h => hleaves _ (hoff h), hstay,
        fun id left hp => ⟨fun h => hopens _ _ ((hpending id left hp).1 h), (hpending id left hp).2⟩, hclosed⟩
      simp [State.runBegun, State.dormantTime, hmdu]
  · have hstays : w.listenOn.imon = w.imon ∧ w.listenOn.slu = w.slu ∧ w.listenOn.pbi = w.pbi := by
      by_cases hmode : w.mdu.mode = .listening
      · rw [listenOn_early hmode]
        · exact ⟨rfl, rfl, rfl⟩
        · rw [hmdu] at hmode ⊢
          exact hnot.resolve_left (absurd hmode)
      · rw [listenOn_other hmode]
        exact ⟨rfl, rfl, rfl⟩
    exact ⟨hstays.1.trans himon, hstays.2.1.trans hslu, by rw [hstays.2.2, hrandom]⟩
  · rw [listenOn_other (by rw [hmdu]; exact hmode), hmdu]
    exact ⟨rfl, rfl⟩
  · obtain ⟨hends, hkept⟩ := conflictEnds (agedView s.pvt.view) r s hr
    refine ⟨fun x hx hlost => ?_, fun h => ?_⟩
    · rw [State.ageView, hends x hx hlost]
    · rw [State.ageView, hkept h]
      exact hr
  · rw [hclaim]
    exact computedClaim_after hfree _

end Sys2Proof.Machine
end
